-- ==== Sys2Proof/Word.lean ====
section
/-!
DEFINITION. The widths RGX speaks of: bytes, the 16-bit and 32-bit fields of a packet, Colours, packets
(spec 30_encoding.md R70, R71; 10_state.md R21).
-/

namespace Sys2Proof

/-- One byte of pattern RAM, pixel RAM or host memory (R63). -/
abbrev Byte := BitVec 8

/-- A 16-bit field of a packet: `A`, `B` or `C` (R71). -/
abbrev Half := BitVec 16

/-- A 32-bit word: `P0`, `P1`, the result, a host-memory address (R71, R79, R52). -/
abbrev Word := BitVec 32

/-- A Colour: red 23:16, green 15:8, blue 7:0 (R21). -/
abbrev Colour := BitVec 24

/-- A command packet, `W3 ++ W2 ++ W1 ++ W0` (R70). -/
abbrev Packet := BitVec 128

end Sys2Proof
end

