-- ==== Sys2Proof/Config.lean ====
section
/-!
DEFINITION. What an implementation fixes (spec 00_scope.md R5, R6) and the free values: contents the spec
leaves unspecified (10_state.md R22, R24, R26; 93_implementation_defined.md U3, U7). A free value is an opaque
constant: nothing can be proved of what it is.
-/

namespace Sys2Proof.Config

/-- The two legal values of `SETPIXEL_GATE` (R6): the phase in which SET_PIXEL acts. -/
inductive PixelGate where
  | modifying
  | rendering
deriving DecidableEq, Repr

/-- The parameters the source leaves open, each with RGX's value as its default (R6). -/
structure Params where
  /-- `STRIDE_ALIGN`: the row stride is a multiple of this many bytes (R20, U6). -/
  strideAlign : Nat := 4
  /-- `PIXEL_RAM_BYTES`: capacity of pixel RAM (R205, U11). -/
  pixelRamBytes : Nat := 1048576
  /-- `PATTERN_RAM_BYTES`: capacity of pattern RAM (R205, U11). -/
  patternRamBytes : Nat := 16384
  /-- `CONV_IMPLEMENTED`: the (native depth, bits) pairs a pattern transfer converts (R102, U1). -/
  convImplemented : List (Nat × Nat) := []
  /-- `SETPIXEL_GATE`: the phase in which SET_PIXEL acts (R132, U9). -/
  setPixelGate : PixelGate := .modifying
  /-- `HOST_ADDR_BITS`: width of a host-memory byte address (R52). -/
  hostAddrBits : Nat := 32
  /-- `COORD_BITS`: width of the signed operands (R74). -/
  coordBits : Nat := 16
  /-- `IF_VERSION`: the value of GET_INFO selector 15 (R214). -/
  ifVersion : Nat := 1
deriving DecidableEq, Repr

/-- RGX: every parameter at the value R6 gives. The machine's step runs with these. -/
def rgx : Params := {}

/-- The parameter values R6 and 92_eei_decisions.md D12 allow: `STRIDE_ALIGN` a power of two, and none of the three pairs
the source declares no-ops in `CONV_IMPLEMENTED`. -/
def Params.Admissible (p : Params) : Prop :=
  (∃ n, p.strideAlign = 2 ^ n) ∧
    (2, 1) ∉ p.convImplemented ∧ (2, 4) ∉ p.convImplemented ∧ (2, 8) ∉ p.convImplemented

/-- `PATTERN_COUNT` (R5): a power of two, so that `& 255` reduces a pattern index (R277). -/
abbrev patternCount : Nat := 256

/-- Palette RAM has this many entries (R21, R40). -/
abbrev paletteEntries : Nat := 256

/-- FREE VALUE: entry `i` of palette RAM while nothing has written it, in RAM period `epoch` (R22, U3). -/
opaque freeColour (epoch i : Nat) : Colour

/-- FREE VALUE: byte `a` of pattern RAM while nothing has written it, in RAM period `epoch` (R24, U3). -/
opaque freePatternByte (epoch a : Nat) : Byte

/-- FREE VALUE: byte `a` of pixel RAM while nothing has written it, in RAM period `epoch` (R26, U3). -/
opaque freePixelByte (epoch a : Nat) : Byte

/-- FREE VALUE: the byte of host memory at `a` while neither RGX nor a recorded host write has written it (R52, U7). -/
opaque hostByte (a : Nat) : Byte

end Sys2Proof.Config
end

