-- ==== Sys2Proof/Syntax.lean ====
section
/-!
DEFINITION. The nineteen commands of RGX, one constructor per row of the opcode map (spec 30_encoding.md R76), each with the
operands R72 gives it in the order of R81. Signed operands are the integers `signed16` reads (R74, log entry 15); indices,
`bits`, selectors, colours and pointers are the bits of their fields (R75).
-/

namespace Sys2Proof

inductive Instr where
  /-- CONFIGURE `canvas_w, canvas_h, screen_w, screen_h, bpp, frame_rate`, the six requests (R200). -/
  | configure (canvasW canvasH screenW screenH bpp frameRate : Int)
  /-- TEARDOWN (R206). -/
  | teardown
  /-- MODIFY_ENTER (R207). -/
  | modifyEnter
  /-- MODIFY_EXIT (R208). -/
  | modifyExit
  /-- RENDER_ENTER (R210). -/
  | renderEnter
  /-- RENDER_EXIT (R211). -/
  | renderExit
  /-- CLEAR (R209). -/
  | clear
  /-- PRESENT (R213). -/
  | present
  /-- GET_INFO `sel` (R214). -/
  | getInfo (sel : Half)
  /-- GET_COLOUR `index` (R134). -/
  | getColour (index : Half)
  /-- SET_COLOUR `index, colour` (R135). -/
  | setColour (index : Half) (colour : Colour)
  /-- READ_PALETTE `out` (R136). -/
  | readPalette (out : Word)
  /-- WRITE_PALETTE `in` (R138). -/
  | writePalette (src : Word)
  /-- READ_PATTERN `index, bits, out` (R103). -/
  | readPattern (index bits : Half) (out : Word)
  /-- WRITE_PATTERN `index, bits, in` (R105). -/
  | writePattern (index bits : Half) (src : Word)
  /-- GET_PIXEL `x, y` (R130). -/
  | getPixel (x y : Int)
  /-- SET_PIXEL `x, y, index` (R132). -/
  | setPixel (x y : Int) (index : Half)
  /-- DRAW_SPRITE `x, y, pattern, palette, hflip, vflip, hwrap, vwrap` (R160). -/
  | drawSprite (x y : Int) (pattern : Half) (palette : Word) (hflip vflip hwrap vwrap : Bool)
  /-- DRAW_TILES `x, y, tiles, palettes, hwrap, vwrap, transparent` (R180). -/
  | drawTiles (x y : Int) (tiles palettes : Word) (hwrap vwrap transparent : Bool)
deriving DecidableEq, Repr

/-- The pseudo-commands of the assembler (R82). -/
inductive Pseudo where
  | frameBegin
  | frameEnd
deriving DecidableEq, Repr

end Sys2Proof
end

