-- ==== Sys2Proof/WellFormed.lean ====
section
/-!
DEFINITION. Which commands have an encoding: every signed operand lies in the range of `COORD_BITS` two's-complement bits
(spec 30_encoding.md R74, 00_scope.md R6). The other operands are bit vectors of their field's width and need no check.
-/

namespace Sys2Proof

/-- The range of `signed16`: −32768 .. 32767 for `COORD_BITS = 16` (R7, R74). -/
def fitsCoord (v : Int) : Bool :=
  decide (-(2 ^ (Config.rgx.coordBits - 1) : Int) ≤ v) && decide (v < 2 ^ (Config.rgx.coordBits - 1))

/-- A command that some packet encodes (R74, R75). -/
def Instr.wellFormed : Instr → Bool
  | .configure cw ch sw sh bpp fr =>
    fitsCoord cw && fitsCoord ch && fitsCoord sw && fitsCoord sh && fitsCoord bpp && fitsCoord fr
  | .teardown => true
  | .modifyEnter => true
  | .modifyExit => true
  | .renderEnter => true
  | .renderExit => true
  | .clear => true
  | .present => true
  | .getInfo _ => true
  | .getColour _ => true
  | .setColour _ _ => true
  | .readPalette _ => true
  | .writePalette _ => true
  | .readPattern _ _ _ => true
  | .writePattern _ _ _ => true
  | .getPixel x y => fitsCoord x && fitsCoord y
  | .setPixel x y _ => fitsCoord x && fitsCoord y
  | .drawSprite x y _ _ _ _ _ _ => fitsCoord x && fitsCoord y
  | .drawTiles x y _ _ _ _ _ => fitsCoord x && fitsCoord y

end Sys2Proof
end

