-- ==== Sys2Proof/Decode.lean ====
section
/-!
DEFINITION. The decoder, total on any packet and on any bytes, and after it the encoder (spec 30_encoding.md R70 to R80).
-/

namespace Sys2Proof

/-- Why something given to the decoder is no command. -/
inductive DecodeError where
  /-- A reserved value of `OPCODE` (R77). -/
  | reservedOpcode (opcode : Byte)
  /-- Not the 16 bytes of a packet (R70). -/
  | notAPacket (length : Nat)
deriving DecidableEq, Repr

/-! ### Fields of a packet (R71) -/

def Packet.opcode (w : Packet) : Byte := w.extractLsb' 0 8
def Packet.flags (w : Packet) : Byte := w.extractLsb' 8 8
def Packet.fieldA (w : Packet) : Half := w.extractLsb' 16 16
def Packet.fieldB (w : Packet) : Half := w.extractLsb' 32 16
def Packet.fieldC (w : Packet) : Half := w.extractLsb' 48 16
def Packet.fieldP0 (w : Packet) : Word := w.extractLsb' 64 32
def Packet.fieldP1 (w : Packet) : Word := w.extractLsb' 96 32

/-- `f[15:0]` of a pointer-sized field (R72). -/
def lowHalf (f : Word) : Half := f.extractLsb' 0 16

/-- `f[31:16]` of a pointer-sized field (R72). -/
def highHalf (f : Word) : Half := f.extractLsb' 16 16

/-- `signed16` (R7): the field as a two's-complement integer. -/
def signed16 (f : Half) : Int := f.toInt

/-! ### The opcode map (R76) -/

/-- Decoding is by `OPCODE` alone (R76); a field or flag that R72, R73 do not list for the command is not looked at (R78). -/
def decode (w : Packet) : Except DecodeError Instr :=
  match w.opcode.toNat with
  | 0x01 => .ok (.configure (signed16 w.fieldB) (signed16 w.fieldC)
      (signed16 (lowHalf w.fieldP0)) (signed16 (highHalf w.fieldP0))
      (signed16 (lowHalf w.fieldP1)) (signed16 (highHalf w.fieldP1)))
  | 0x02 => .ok .teardown
  | 0x03 => .ok .modifyEnter
  | 0x04 => .ok .modifyExit
  | 0x05 => .ok .renderEnter
  | 0x06 => .ok .renderExit
  | 0x07 => .ok .clear
  | 0x08 => .ok .present
  | 0x09 => .ok (.getInfo w.fieldA)
  | 0x10 => .ok (.getColour w.fieldA)
  | 0x11 => .ok (.setColour w.fieldA (w.fieldP0.extractLsb' 0 24))
  | 0x12 => .ok (.readPalette w.fieldP0)
  | 0x13 => .ok (.writePalette w.fieldP0)
  | 0x14 => .ok (.readPattern w.fieldA w.fieldB w.fieldP0)
  | 0x15 => .ok (.writePattern w.fieldA w.fieldB w.fieldP0)
  | 0x18 => .ok (.getPixel (signed16 w.fieldB) (signed16 w.fieldC))
  | 0x19 => .ok (.setPixel (signed16 w.fieldB) (signed16 w.fieldC) w.fieldA)
  | 0x20 => .ok (.drawSprite (signed16 w.fieldB) (signed16 w.fieldC) w.fieldA w.fieldP0
      (w.flags.getLsbD 0) (w.flags.getLsbD 1) (w.flags.getLsbD 2) (w.flags.getLsbD 3))
  | 0x21 => .ok (.drawTiles (signed16 w.fieldB) (signed16 w.fieldC) w.fieldP0 w.fieldP1
      (w.flags.getLsbD 2) (w.flags.getLsbD 3) (w.flags.getLsbD 4))
  | _ => .error (.reservedOpcode w.opcode)

/-- Bytes as one number, the first byte least significant (R45, R70). -/
def littleEndian : List Byte → Nat
  | [] => 0
  | b :: bs => b.toNat + 256 * littleEndian bs

/-- A packet written as bytes is 16 bytes, `W0` first, each word little-endian (R70). -/
def decodeBytes (bs : List Byte) : Except DecodeError Instr :=
  if bs.length = 16 then decode (BitVec.ofNat 128 (littleEndian bs)) else .error (.notAPacket bs.length)

/-- The 16 bytes of a packet (R70). -/
def Packet.bytes (w : Packet) : List Byte := (List.range 16).map fun i => w.extractLsb' (8 * i) 8

/-- The packet whose low `nbits` bits are those of `w` and whose other bits are 0. -/
def packetOfTableWord (nbits w : Nat) : Packet := BitVec.ofNat 128 (w % 2 ^ nbits)

/-- The command the decoder reads from the packet numbered as the opcode table numbers its bits. -/
def decodeTableWord (nbits w : Nat) : Option Instr := (decodeBytes (packetOfTableWord nbits w).bytes).toOption

/-! ### The encoder (R71 to R76) -/

/-- A packet from its fields (R70, R71). -/
def packet (opcode flags : Byte) (a b c : Half) (p0 p1 : Word) : Packet :=
  p1 ++ p0 ++ c ++ b ++ a ++ flags ++ opcode

/-- `FLAGS` from its five Booleans; bits 7:5 are 0 (R73). -/
def flagBits (hflip vflip hwrap vwrap transparent : Bool) : Byte :=
  0#3 ++ BitVec.ofBool transparent ++ BitVec.ofBool vwrap ++ BitVec.ofBool hwrap ++ BitVec.ofBool vflip ++
    BitVec.ofBool hflip

/-- A signed operand as the bits of its field (R74). -/
def coordBits (v : Int) : Half := BitVec.ofInt 16 v

/-- Two 16-bit values in one 32-bit field, the first in bits 15:0 (R72). -/
def halves (low high : Half) : Word := high ++ low

/-- The packet of a command, every reserved field and bit 0 (R72, R76, R78). -/
def encode : Instr → Packet
  | .configure cw ch sw sh bpp fr =>
    packet 0x01 0 0 (coordBits cw) (coordBits ch) (halves (coordBits sw) (coordBits sh))
      (halves (coordBits bpp) (coordBits fr))
  | .teardown => packet 0x02 0 0 0 0 0 0
  | .modifyEnter => packet 0x03 0 0 0 0 0 0
  | .modifyExit => packet 0x04 0 0 0 0 0 0
  | .renderEnter => packet 0x05 0 0 0 0 0 0
  | .renderExit => packet 0x06 0 0 0 0 0 0
  | .clear => packet 0x07 0 0 0 0 0 0
  | .present => packet 0x08 0 0 0 0 0 0
  | .getInfo sel => packet 0x09 0 sel 0 0 0 0
  | .getColour index => packet 0x10 0 index 0 0 0 0
  | .setColour index colour => packet 0x11 0 index 0 0 (colour.setWidth 32) 0
  | .readPalette out => packet 0x12 0 0 0 0 out 0
  | .writePalette src => packet 0x13 0 0 0 0 src 0
  | .readPattern index bits out => packet 0x14 0 index bits 0 out 0
  | .writePattern index bits src => packet 0x15 0 index bits 0 src 0
  | .getPixel x y => packet 0x18 0 0 (coordBits x) (coordBits y) 0 0
  | .setPixel x y index => packet 0x19 0 index (coordBits x) (coordBits y) 0 0
  | .drawSprite x y pattern palette hf vf hw vw =>
    packet 0x20 (flagBits hf vf hw vw false) pattern (coordBits x) (coordBits y) palette 0
  | .drawTiles x y tiles palettes hw vw tr =>
    packet 0x21 (flagBits false false hw vw tr) 0 (coordBits x) (coordBits y) tiles palettes

/-- The packet of a command as bytes (R70). -/
def encodeBytes (i : Instr) : List Byte := (encode i).bytes

end Sys2Proof
end

