-- ==== Sys2Proof/Machine/State.lean ====
section
/-!
DEFINITION. The state of RGX (spec 10_state.md R10 to R32), of what stands around it (host memory, the command channel), its
events, the reasons a step can stop, and reset.
-/

namespace Sys2Proof.Machine

/-- The phase register (R12); its 2-bit numbering is `Phase.code`. -/
inductive Phase where
  | unconfigured
  | ready
  | modifying
  | rendering
deriving DecidableEq, Repr

/-- The warnings of CONFIGURE (R241); their numbers are `WarnCode.number`. -/
inductive WarnCode where
  | canvasW
  | canvasH
  | screenW
  | screenH
  | depth
  | frameRate
deriving DecidableEq, Repr

/-- The fatal errors of CONFIGURE (R243); their numbers are `ErrorCode.number`. -/
inductive ErrorCode where
  | patternStorage
  | pixelStorage
deriving DecidableEq, Repr

/-- An event of the Output stream (R31). -/
inductive OutputEvent where
  | warn (code : WarnCode)
  | error (code : ErrorCode) (fatal : Bool)
deriving DecidableEq, Repr

/-- What PRESENT hands to the Presenter (R31, R213). -/
structure Snapshot where
  screenW : BitVec 11
  screenH : BitVec 11
  depth : BitVec 4
  stride : Nat
  frameRate : BitVec 6
  pixels : List Byte
  palette : List Colour
deriving DecidableEq, Repr

/-- What the host does to RGX: deliver a packet (R2), assert the reset input (R260), or, between commands, write one byte of its
own memory (R58, R59). Log entry 1. -/
inductive HostEvent where
  | command (packet : Packet)
  | reset
  | hostWrite (address : Word) (value : Byte)
deriving DecidableEq, Repr

/-- Cells in use of one address space, by address; what an unlisted address reads as is said by the operation that reads the
space (`palEntry`, `patByte`, `pixByte`, `hostByteAt`). A memory of bytes is a list of `Host.Cell`. -/
abbrev Memory (w : Nat) := List (Nat × BitVec w)

/-- RGX has no fault of its own (R52, R77, R248). -/
inductive Fault where
  /-- Raised by a command that would use palette, pattern or pixel RAM while the configuration registers hold values that R14 to
  R17 call illegal, or that need more storage than the RAMs have (R205): its accesses could name bytes that do not exist (R40).
  No run reaches it, since CONFIGURE alone sets the registers. Safe. Log entry 7. -/
  | illegalConfiguration
deriving DecidableEq, Repr

/-- Why an instruction has no meaning. -/
inductive Refusal where
  /-- An instruction with no meaning yet; no arm of `exec` answers it. Safe. -/
  | notModelled (mnemonic : String)
  /-- Raised by READ_PATTERN and WRITE_PATTERN on a (native depth, bits) pair of `CONV_IMPLEMENTED`, whose conversion the spec
  does not describe (R102, R108, U1). The set is empty in RGX, so no step of the machine raises it. Safe. Log entry 9. -/
  | conversionUndescribed (native bits : Nat)
deriving DecidableEq, Repr

/-- All the state of the machine, as plain data. -/
structure State where
  /-- `state`, the phase (R12). -/
  phase : Phase
  /-- Canvas width in pixels (R14). -/
  canvasW : BitVec 11
  /-- Canvas height in pixels (R14). -/
  canvasH : BitVec 11
  /-- Screen width in pixels (R15). -/
  screenW : BitVec 11
  /-- Screen height in pixels (R15). -/
  screenH : BitVec 11
  /-- Bits per pixel (R16). -/
  depth : BitVec 4
  /-- Frames per second (R17). -/
  frameRate : BitVec 6
  /-- Palette RAM: the entries written since the contents became unspecified (R21, R22). -/
  pal : Memory 24
  /-- Pattern RAM: the bytes written since the contents became unspecified (R23, R24). -/
  pat : List Host.Cell
  /-- Pixel RAM: the bytes written since the contents became unspecified (R25, R26). -/
  pix : List Host.Cell
  /-- The model's own counter: which period of unspecified RAM contents this is (U3, log entry 5). -/
  ramEpoch : Nat
  /-- The Output stream, oldest event first (R31). -/
  output : List OutputEvent
  /-- The Presenter stream, oldest event first (R31). -/
  presenter : List Snapshot
  /-- Host memory: the bytes written (R11, R52). -/
  hostMem : List Host.Cell
  /-- What the host does next, first event first (log entry 1). -/
  inputs : List HostEvent
  /-- The result word of the last completed command since reset (R79, log entry 2). -/
  result : Option Word
deriving DecidableEq, Repr

/-- RGX right after reset (R32): phase Unconfigured, the six registers 0, RAM contents unspecified (nothing listed), both streams
empty, no command in progress and no result. -/
def State.reset : State where
  phase := .unconfigured
  canvasW := 0
  canvasH := 0
  screenW := 0
  screenH := 0
  depth := 0
  frameRate := 0
  pal := []
  pat := []
  pix := []
  ramEpoch := 0
  output := []
  presenter := []
  hostMem := []
  inputs := []
  result := none

/-- How a command ends. -/
abbrev Outcome := Host.Outcome State Fault Refusal

end Sys2Proof.Machine
end

