-- ==== Sys2Proof/Machine/Codec.lean ====
section
/-!
DEFINITION. The pixel codec (spec 20_memory.md R42, R43; 40_pixel_codec_and_pattern_store.md R100, R101): samples of 1, 2, 4 or
8 bits packed most significant first into bytes. Pure functions; every other rule reaches packed data through them.
-/

namespace Sys2Proof.Machine

/-- Samples in a byte at depth `d` (R43). -/
def ppb (d : Nat) : Nat := 8 / d

/-- The mask of one field at depth `d` (R43). -/
def fmask (d : Nat) : Nat := 2 ^ d - 1

/-- How far left of bit 0 the field of sample `k` stands in its byte (R43). -/
def fieldShift (d k : Nat) : Nat := 8 - d * (k % ppb d + 1)

/-- Which byte of a row holds sample `k` (R43). -/
def byteOff (d k : Nat) : Nat := k * d / 8

/-- The value of sample `k` in its byte `b` (R43). -/
def unpack (d : Nat) (b : Byte) (k : Nat) : Nat := (b.toNat >>> fieldShift d k) &&& fmask d

/-- The byte `b` with the field of sample `k` replaced by `v`, masked to the field (R43). -/
def pack (d : Nat) (b : Byte) (k v : Nat) : Byte :=
  (b &&& ~~~ BitVec.ofNat 8 (fmask d <<< fieldShift d k)) |||
    BitVec.ofNat 8 ((v &&& fmask d) <<< fieldShift d k)

/-- The 8 samples of a packed pattern row (R101). -/
def unpackRow (d : Nat) (row : List Byte) : List Nat :=
  (List.range 8).map fun c => unpack d (row.getD (byteOff d c) 0) c

/-- One more sample put into a packed row (R101). -/
def packInto (d : Nat) (samples : List Nat) (row : List Byte) (c : Nat) : List Byte :=
  row.set (byteOff d c) (pack d (row.getD (byteOff d c) 0) c (samples.getD c 0))

/-- The `d` bytes that hold 8 samples: `pack` applied to `d` zero bytes, sample by sample (R101). -/
def packRow (d : Nat) (samples : List Nat) : List Byte :=
  (List.range 8).foldl (packInto d samples) (List.replicate d 0)

/-- The 64 samples of a packed pattern, row by row (R101). -/
def unpackPattern (d : Nat) (q : List Byte) : List Nat :=
  (List.range 8).flatMap fun r => unpackRow d ((q.drop (r * d)).take d)

/-- The `8 × d` bytes of a pattern's 64 samples (R101). -/
def packPattern (d : Nat) (samples : List Nat) : List Byte :=
  (List.range 8).flatMap fun r => packRow d ((samples.drop (8 * r)).take 8)

end Sys2Proof.Machine
end

