-- ==== Sys2Proof/Machine/Flags.lean ====
section
/-!
DEFINITION. RGX has no arithmetic flags (spec 10_state.md R29). What stands here is the numbering of the phase register and of
the event codes, and the two flags of the source, which are functions of the phase (R12).
-/

namespace Sys2Proof.Machine

/-- The 2-bit encoding of the phase register (R12). -/
def Phase.code : Phase → BitVec 2
  | .unconfigured => 0
  | .ready => 1
  | .modifying => 2
  | .rendering => 3

/-- `modifying = (state == 2)` (R12). -/
def State.modifyingFlag (s : State) : Bool := s.phase.code == 2

/-- `rendering = (state == 3)` (R12). -/
def State.renderingFlag (s : State) : Bool := s.phase.code == 3

/-- The warning codes (R241). -/
def WarnCode.number : WarnCode → Nat
  | .canvasW => 1
  | .canvasH => 2
  | .screenW => 3
  | .screenH => 4
  | .depth => 5
  | .frameRate => 6

/-- The fatal error codes (R243). -/
def ErrorCode.number : ErrorCode → Nat
  | .patternStorage => 1
  | .pixelStorage => 2

/-- The phase in which SET_PIXEL acts for a value of `SETPIXEL_GATE` (R132). -/
def gatePhase : Config.PixelGate → Phase
  | .modifying => .modifying
  | .rendering => .rendering

end Sys2Proof.Machine
end

