-- ==== Sys2Proof/Machine/Ops.lean ====
section
/-!
DEFINITION. The named operations over memories, registers and streams (spec 10_state.md, 20_memory.md), how a command ends, the
silent no-op, and `raise Fatal`, the only exception RGX has (60_exceptions.md R245). There is no return from it: nothing is
saved and the next command is executed like any other (R249).
-/

namespace Sys2Proof.Machine

open Config (Params)

/-! ### Memories: lists of (address, value) with rising addresses -/

/-- The value written at address `a`, if any. -/
def Memory.read? {w : Nat} : Memory w → Nat → Option (BitVec w)
  | [], _ => none
  | (k, v) :: m, a => if k = a then some v else Memory.read? m a

/-- `v` written at address `a`, the addresses staying in rising order. -/
def Memory.write {w : Nat} : Memory w → Nat → BitVec w → Memory w
  | [], a, v => [(a, v)]
  | (k, u) :: m, a, v =>
    if a < k then (a, v) :: (k, u) :: m
    else if a = k then (a, v) :: m
    else (k, u) :: Memory.write m a v

/-- Values written at consecutive addresses from `a` up. -/
def Memory.writeList {w : Nat} (m : Memory w) (a : Nat) : List (BitVec w) → Memory w
  | [] => m
  | v :: vs => Memory.writeList (Memory.write m a v) (a + 1) vs

/-- `v` written at every address below `n`. -/
def Memory.fill {w : Nat} (m : Memory w) (n : Nat) (v : BitVec w) : Memory w :=
  (List.range n).map (fun a => (a, v)) ++ m.filter (fun c => decide (n ≤ c.1))

/-- The one canonical form: addresses strictly rising. (What an unlisted address reads as is a free value, never an entry's.) -/
abbrev Memory.wf {w : Nat} (m : Memory w) : Prop := (m.map Prod.fst).Pairwise (· < ·)

/-- Every address is below `n`. -/
abbrev Memory.below {w : Nat} (m : Memory w) (n : Nat) : Prop := ∀ c ∈ m, c.1 < n

/-! ### Notation of R7 -/

/-- `alignup(v, a)`: the least multiple of `a` that is ≥ `v` (R7). -/
def alignUp (v a : Nat) : Nat := (v + (a - 1)) / a * a

/-- `ceil8(v)`: the least multiple of 8 that is ≥ `v` (R7). -/
def ceil8 (v : Nat) : Nat := alignUp v 8

/-! ### Quantities derived from the configuration registers (R18 to R20, R41, R56) -/

/-- `colour_count` (R18). -/
def State.colourCount (s : State) : Nat := if s.phase = .unconfigured then 0 else 2 ^ s.depth.toNat

/-- `bytes_per_pattern` (R19). -/
def State.bytesPerPattern (s : State) : Nat := if s.phase = .unconfigured then 0 else 8 * s.depth.toNat

/-- `row_bytes` (R20). -/
def State.rowBytes (s : State) : Nat :=
  if s.phase = .unconfigured then 0 else s.screenW.toNat * s.depth.toNat / 8

/-- `stride` (R20). -/
def State.stride (p : Params) (s : State) : Nat := alignUp s.rowBytes p.strideAlign

/-- Bytes of pixel RAM in use, `stride × screen_h` (R25, R41). -/
def State.pixelBytes (p : Params) (s : State) : Nat := s.stride p * s.screenH.toNat

/-- Bytes of pattern RAM in use, `256 × bytes_per_pattern` (R23, R41). -/
def State.patternBytes (s : State) : Nat := Config.patternCount * s.bytesPerPattern

/-- `tiles_w` (R56). -/
def State.tilesW (s : State) : Nat := s.canvasW.toNat / 8

/-- `tiles_h` (R56). -/
def State.tilesH (s : State) : Nat := s.canvasH.toNat / 8

/-! ### Legal configurations -/

/-- A legal dimension: a multiple of 8 from 8 to 1024 (R5, R14, R15). -/
abbrev legalDim (n : Nat) : Prop := n % 8 = 0 ∧ 8 ≤ n ∧ n ≤ 1024

/-- The legal values of the six registers while configured (R14 to R17), and storage that fits the RAMs (R205). -/
def State.configLegal (p : Params) (s : State) : Bool :=
  decide (legalDim s.canvasW.toNat ∧ legalDim s.canvasH.toNat ∧ legalDim s.screenW.toNat ∧ legalDim s.screenH.toNat ∧
    s.screenW.toNat ≤ s.canvasW.toNat ∧ s.screenH.toNat ≤ s.canvasH.toNat ∧
    s.depth.toNat ∈ [1, 2, 4, 8] ∧ 1 ≤ s.frameRate.toNat ∧ s.frameRate.toNat ≤ 60 ∧
    s.patternBytes ≤ p.patternRamBytes ∧ s.pixelBytes p ≤ p.pixelRamBytes)

/-! ### Reading the address spaces: an unlisted address reads as its free value (log entries 3, 4) -/

/-- `PAL[i]` (R21, R22). -/
def palEntry (s : State) (i : Nat) : Colour := (Memory.read? s.pal i).getD (Config.freeColour s.ramEpoch i)

/-- `PAT[a]` (R23, R24). -/
def patByte (s : State) (a : Nat) : Byte := (Memory.read? s.pat a).getD (Config.freePatternByte s.ramEpoch a)

/-- Byte `a` of a content of pixel RAM in RAM period `epoch` (R25, R26). -/
def pixByteIn (epoch : Nat) (m : Memory 8) (a : Nat) : Byte :=
  (Memory.read? m a).getD (Config.freePixelByte epoch a)

/-- `PIX[a]` (R25, R26). -/
def pixByte (s : State) (a : Nat) : Byte := pixByteIn s.ramEpoch s.pix a

/-- A host-memory address, taken modulo `2^HOST_ADDR_BITS` (R52). -/
def hostAddr (p : Params) (a : Nat) : Nat := a % 2 ^ p.hostAddrBits

/-- The byte of host memory at `a` (R52). -/
def hostByteAt (p : Params) (s : State) (a : Nat) : Byte :=
  (Memory.read? s.hostMem (hostAddr p a)).getD (Config.hostByte (hostAddr p a))

/-- `MemRead(addr, n)` (R8, R52). -/
def hostRead (p : Params) (s : State) (addr n : Nat) : List Byte :=
  (List.range n).map fun i => hostByteAt p s (addr + i)

/-- `MemWrite(addr, n, b)` on a content of host memory (R8, R52). -/
def hostWriteBytes (p : Params) (m : Memory 8) (addr : Nat) : List Byte → Memory 8
  | [] => m
  | b :: bs => hostWriteBytes p (Memory.write m (hostAddr p addr) b) (addr + 1) bs

/-! ### Updates of State, one per kind of write -/

def State.withPhase (ph : Phase) (s : State) : State := { s with phase := ph }
def State.withPal (m : Memory 24) (s : State) : State := { s with pal := m }
def State.withPat (m : Memory 8) (s : State) : State := { s with pat := m }
def State.withPix (m : Memory 8) (s : State) : State := { s with pix := m }
def State.withHostMem (m : Memory 8) (s : State) : State := { s with hostMem := m }
def State.withInputs (l : List HostEvent) (s : State) : State := { s with inputs := l }
def State.withResult (r : Word) (s : State) : State := { s with result := some r }

/-- The six configuration registers written together, each at its width (R14 to R17). -/
def State.withConfig (cw ch sw sh d fr : Nat) (s : State) : State :=
  { s with canvasW := BitVec.ofNat 11 cw, canvasH := BitVec.ofNat 11 ch, screenW := BitVec.ofNat 11 sw,
           screenH := BitVec.ofNat 11 sh, depth := BitVec.ofNat 4 d, frameRate := BitVec.ofNat 6 fr }

/-- `emit` on the Output stream (R8, R31). -/
def State.emit (events : List OutputEvent) (s : State) : State := { s with output := s.output ++ events }

/-- `emit Present(snapshot)` on the Presenter stream (R8, R31). -/
def State.emitFrame (f : Snapshot) (s : State) : State := { s with presenter := s.presenter ++ [f] }

/-- The contents of the three RAMs become unspecified: nothing is listed and a new period of free values begins (R22, R24, R26). -/
def State.forgetRams (s : State) : State := { s with pal := [], pat := [], pix := [], ramEpoch := s.ramEpoch + 1 }

/-! ### How a command ends -/

/-- The command is complete and returns `r` (R2, R79). -/
def finish (r : Word) (s : State) : Outcome := .next (s.withResult r)

/-- `noop` (R8): nothing changes and the result is 0. -/
def noop (s : State) : Outcome := finish 0 s

/-- A command that uses a RAM goes on only where its accesses name bytes that exist (R14 to R17, R40, R205; log entry 7). -/
def onLegal (p : Params) (s : State) (k : Outcome) : Outcome :=
  if s.configLegal p then k else .fault .illegalConfiguration

/-- `raise Fatal(code)` (R245): the `Error` event, phase Unconfigured, the six registers 0, result 0. Events already emitted
stay; nothing is saved and no handler is entered. -/
def raiseFatal (code : ErrorCode) (s : State) : Outcome :=
  finish 0 (((s.emit [.error code true]).withConfig 0 0 0 0 0 0).withPhase .unconfigured)

/-- A phase command: from `source` to `target`, a silent no-op in any other phase (R207, R208, R210 to R212). -/
def movePhase (source target : Phase) (s : State) : Outcome :=
  if s.phase = source then finish 0 (s.withPhase target) else noop s

end Sys2Proof.Machine
end

