-- ==== Sys2Proof/Machine/Operands.lean ====
section
/-!
DEFINITION. Operand forms and effective addresses (spec 30_encoding.md R74, R75; 20_memory.md R46 to R57;
42_draw_sprite.md R161, R162): masked indices, pixels, pattern samples, colour words, indirection tables, tile records, transfer
kinds, and the axis rule the two blitters share.
-/

namespace Sys2Proof.Machine

open Config (Params)

/-! ### Masked indices (R75) -/

/-- The pattern number of an index operand, `index & 255` (R49, R75). -/
def patternNumber (index : Nat) : Nat := index &&& (Config.patternCount - 1)

/-- A value masked to `colour_count − 1` (R18, R51, R75). -/
def State.maskColour (s : State) (v : Nat) : Nat := v &&& (s.colourCount - 1)

/-! ### Pixels (R46) -/

/-- `pixaddr(x, y)` (R46). -/
def State.pixAddr (p : Params) (s : State) (x y : Nat) : Nat := y * s.stride p + byteOff s.depth.toNat x

/-- `PixGet(x, y)` in a content of pixel RAM (R46). -/
def pixGetIn (p : Params) (s : State) (m : Memory 8) (x y : Nat) : Nat :=
  unpack s.depth.toNat (pixByteIn s.ramEpoch m (s.pixAddr p x y)) x

/-- `PixGet(x, y)` (R46). -/
def pixGet (p : Params) (s : State) (x y : Nat) : Nat := pixGetIn p s s.pix x y

/-- `PixPut(x, y, v)` on a content of pixel RAM: one byte is read, its field replaced, and written back (R46, R63). -/
def pixPutIn (p : Params) (s : State) (m : Memory 8) (x y v : Nat) : Memory 8 :=
  Memory.write m (s.pixAddr p x y) (pack s.depth.toNat (pixByteIn s.ramEpoch m (s.pixAddr p x y)) x v)

/-- (x, y) lies inside the screen (R46, R130). -/
abbrev State.inScreen (s : State) (x y : Int) : Prop :=
  0 ≤ x ∧ x < s.screenW.toNat ∧ 0 ≤ y ∧ y < s.screenH.toNat

/-! ### Patterns (R49) -/

/-- `patbase(p)` (R49). -/
def State.patBase (s : State) (index : Nat) : Nat := patternNumber index * 8 * s.depth.toNat

/-- `pataddr(p, c, r)` (R49). -/
def State.patAddr (s : State) (index c r : Nat) : Nat :=
  s.patBase index + r * s.depth.toNat + byteOff s.depth.toNat c

/-- `PatSample(p, c, r)`: column `c`, row `r` of a pattern (R49). -/
def patSample (s : State) (index c r : Nat) : Nat := unpack s.depth.toNat (patByte s (s.patAddr index c r)) c

/-- A sample index on an axis, mirrored when flipped (R163, R184). -/
def flipped (flip : Bool) (k : Nat) : Nat := if flip then 7 - k else k

/-! ### Transfers of patterns (R102) -/

/-- What a pattern transfer does (R102). -/
inductive Xfer where
  | copy
  | convert
  | none
deriving DecidableEq, Repr

/-- `xfer(depth, bits)` (R102). -/
def xfer (p : Params) (depth bits : Nat) : Xfer :=
  if bits = depth ∧ bits ∈ [1, 2, 4, 8] then .copy
  else if bits ∈ [1, 2, 4, 8] ∧ (depth, bits) ∈ p.convImplemented then .convert
  else .none

/-! ### Records in host memory (R53 to R56) -/

/-- A colour word: blue, green, red, 0 (R53). -/
def colourWord (v : Colour) : List Byte := [v.extractLsb' 0 8, v.extractLsb' 8 8, v.extractLsb' 16 8, 0]

/-- The Colour of a colour word; byte 3 is ignored (R53, R138). -/
def wordColour (b : List Byte) : Colour := b.getD 2 0 ++ b.getD 1 0 ++ b.getD 0 0

/-- `Remap(base, v)` (R54). -/
def remap (p : Params) (s : State) (base v : Nat) : Nat := (hostByteAt p s (base + v)).toNat

/-- `RemapT(base, t, v)` (R55). -/
def remapT (p : Params) (s : State) (base t v : Nat) : Nat := (hostByteAt p s (base + t * s.colourCount + v)).toNat

/-- A tile record (R56). -/
structure Tile where
  pattern : Nat
  palette : Nat
  hflip : Bool
  vflip : Bool
deriving DecidableEq, Repr

/-- The four bytes of a tile record; bits 7:1 of the flip bytes are ignored (R56). -/
def tileOfBytes (b : List Byte) : Tile where
  pattern := (b.getD 0 0).toNat
  palette := (b.getD 1 0).toNat
  hflip := (b.getD 2 0).getLsbD 0
  vflip := (b.getD 3 0).getLsbD 0

/-- The record of cell (cx, cy) of the tile array at `base` (R56). -/
def tileAt (p : Params) (s : State) (base cx cy : Nat) : Tile :=
  tileOfBytes (hostRead p s (base + 4 * (cy * s.tilesW + cx)) 4)

/-! ### One axis of a blit (R161, R162) -/

/-- `Normalize(coord, dim)`, with the truncating remainder of R7 (R161; log entry 19). -/
def normalize (coord : Int) (dim : Nat) : Int :=
  if 0 ≤ coord then coord.tmod dim else dim + coord.tmod dim

/-- The origin of an axis, normalised when it wraps (R160, R180 step 1). -/
def axisOrigin (coord : Int) (wrap : Bool) (canvas : Nat) : Int := if wrap then normalize coord canvas else coord

/-- What a blit loop does at one index of an axis (R160, R162). -/
inductive AxisStep where
  /-- `continue`: nothing is drawn at this index. -/
  | skip
  /-- `break`: the loop over this axis ends. -/
  | leave
  /-- Draw at this destination coordinate. -/
  | put (d : Nat)
deriving DecidableEq, Repr

/-- The decision at index `k`: wrap with skip, or clip with `continue` on the low side and `break` on the high side (R160). -/
def axisStep (origin : Int) (wrap : Bool) (canvas screen k : Nat) : AxisStep :=
  if wrap then
    if screen ≤ (origin + k) % canvas then .skip else .put ((origin + k) % canvas).toNat
  else if origin + k < 0 then .skip
  else if screen ≤ origin + k then .leave
  else .put (origin + k).toNat

/-- A blit loop over the indices of one axis, with `continue` and `break` (R160, R180). -/
def axisLoop {α : Type} (choose : Nat → AxisStep) (body : Nat → Nat → α → α) : List Nat → α → α
  | [], m => m
  | k :: ks, m =>
    match choose k with
    | .skip => axisLoop choose body ks m
    | .leave => m
    | .put d => axisLoop choose body ks (body k d m)

/-- `Dest(origin, k, wrap, canvas_dim, screen_dim)`, the loop-free form of one axis (R162). -/
def dest (origin : Int) (k : Nat) (wrap : Bool) (canvas screen : Nat) : Option Nat :=
  if wrap then
    if (origin + k) % canvas < screen then some ((origin + k) % canvas).toNat else none
  else if 0 ≤ origin + k ∧ origin + k < screen then some (origin + k).toNat
  else none

/-- A pixel write `(x, y, value)` of the loop-free form of a blit (R167, R187). -/
abbrev PixelWrite := Nat × Nat × Nat

/-- A list of pixel writes carried out in order. -/
def putAll (p : Params) (s : State) (writes : List PixelWrite) (m : Memory 8) : Memory 8 :=
  writes.foldl (fun m w => pixPutIn p s m w.1 w.2.1 w.2.2) m

end Sys2Proof.Machine
end

