-- ==== Sys2Proof/Machine/Control.lean ====
section
/-!
DEFINITION. Context control (spec 44_context_control.md): CONFIGURE, TEARDOWN, the four phase commands, CLEAR, PRESENT, GET_INFO.
-/

namespace Sys2Proof.Machine

open Config (Params)

/-! ### CONFIGURE (R200 to R205, R215) -/

/-- `SnapDim` (R201). -/
def snapDim (v : Int) : Nat := if v < 8 then 8 else if 1024 < v then 1024 else ceil8 v.toNat

/-- `SnapDepth` (R202). -/
def snapDepth (b : Int) : Nat := if b ≤ 1 then 1 else if b = 2 then 2 else if b = 3 ∨ b = 4 then 4 else 8

/-- `min(max(rq_fr, 1), 60)` (R203). -/
def clampRate (r : Int) : Nat := (min (max r 1) 60).toNat

/-- One warning where the value taken differs from the value requested (R204). -/
def warnIf (code : WarnCode) (taken : Nat) (requested : Int) : List OutputEvent :=
  if (taken : Int) = requested then [] else [.warn code]

/-- The six values CONFIGURE takes. -/
structure Clamped where
  cw : Nat
  ch : Nat
  sw : Nat
  sh : Nat
  d : Nat
  fr : Nat
deriving DecidableEq, Repr

/-- The requests validated and clamped; the screen gives way to the canvas (R201 to R203). -/
def clampRequests (cw ch sw sh bpp fr : Int) : Clamped where
  cw := snapDim cw
  ch := snapDim ch
  sw := min (snapDim sw) (snapDim cw)
  sh := min (snapDim sh) (snapDim ch)
  d := snapDepth bpp
  fr := clampRate fr

/-- The warnings of CONFIGURE, in field order (R204). -/
def configWarnings (c : Clamped) (cw ch sw sh bpp fr : Int) : List OutputEvent :=
  warnIf .canvasW c.cw cw ++ warnIf .canvasH c.ch ch ++ warnIf .screenW c.sw sw ++ warnIf .screenH c.sh sh ++
    warnIf .depth c.d bpp ++ warnIf .frameRate c.fr fr

/-- Bytes of pattern storage a configuration needs (R205). -/
def patternNeed (c : Clamped) : Nat := Config.patternCount * 8 * c.d

/-- Bytes of pixel storage a configuration needs (R200, R205). -/
def pixelNeed (p : Params) (c : Clamped) : Nat := alignUp (c.sw * c.d / 8) p.strideAlign * c.sh

/-- The end of CONFIGURE: the storage checks, pattern storage first, then the registers and phase Ready (R200, R205). -/
def takeConfig (p : Params) (c : Clamped) (s : State) : Outcome :=
  if p.patternRamBytes < patternNeed c then raiseFatal .patternStorage s
  else if p.pixelRamBytes < pixelNeed p c then raiseFatal .pixelStorage s
  else finish 1 ((s.withConfig c.cw c.ch c.sw c.sh c.d c.fr).forgetRams.withPhase .ready)

/-- CONFIGURE for any parameters: warnings first, then the storage checks (R200). -/
def configure (p : Params) (cw ch sw sh bpp fr : Int) (s : State) : Outcome :=
  if s.phase = .unconfigured then
    takeConfig p (clampRequests cw ch sw sh bpp fr)
      (s.emit (configWarnings (clampRequests cw ch sw sh bpp fr) cw ch sw sh bpp fr))
  else noop s

/-- CONFIGURE (R200). -/
def execConfigure (cw ch sw sh bpp fr : Int) (s : State) : Outcome := configure Config.rgx cw ch sw sh bpp fr s

/-! ### TEARDOWN and the phase commands (R206 to R212) -/

/-- TEARDOWN (R206): registers 0, Unconfigured, RAM contents unspecified. -/
def execTeardown (s : State) : Outcome :=
  if s.phase = .ready then finish 0 ((s.withConfig 0 0 0 0 0 0).forgetRams.withPhase .unconfigured) else noop s

/-- MODIFY_ENTER (R207). -/
def execModifyEnter (s : State) : Outcome := movePhase .ready .modifying s

/-- MODIFY_EXIT (R208). -/
def execModifyExit (s : State) : Outcome := movePhase .modifying .ready s

/-- RENDER_ENTER (R210). -/
def execRenderEnter (s : State) : Outcome := movePhase .ready .rendering s

/-- RENDER_EXIT (R211). -/
def execRenderExit (s : State) : Outcome := movePhase .rendering .ready s

/-! ### CLEAR and PRESENT (R209, R213) -/

/-- CLEAR for any parameters (R209): every byte in use becomes 0, padding included. -/
def clear (p : Params) (s : State) : Outcome :=
  if s.phase = .ready then onLegal p s (finish 0 (s.withPix (Memory.fill s.pix (s.pixelBytes p) 0))) else noop s

/-- CLEAR (R209). -/
def execClear (s : State) : Outcome := clear Config.rgx s

/-- The snapshot of the moment (R31, R213). -/
def snapshot (p : Params) (s : State) : Snapshot where
  screenW := s.screenW
  screenH := s.screenH
  depth := s.depth
  stride := s.stride p
  frameRate := s.frameRate
  pixels := (List.range (s.pixelBytes p)).map (pixByte s)
  palette := (List.range s.colourCount).map (palEntry s)

/-- PRESENT for any parameters (R213). -/
def present (p : Params) (s : State) : Outcome :=
  if s.phase = .ready then onLegal p s (finish 0 (s.emitFrame (snapshot p s))) else noop s

/-- PRESENT (R213). -/
def execPresent (s : State) : Outcome := present Config.rgx s

/-! ### GET_INFO (R214) -/

/-- The value of a selector (R214). -/
def info (p : Params) (s : State) : Nat → Nat
  | 0 => s.phase.code.toNat
  | 1 => s.canvasW.toNat
  | 2 => s.canvasH.toNat
  | 3 => s.screenW.toNat
  | 4 => s.screenH.toNat
  | 5 => s.depth.toNat
  | 6 => s.colourCount
  | 7 => s.frameRate.toNat
  | 8 => s.stride p
  | 9 => s.rowBytes
  | 10 => s.bytesPerPattern
  | 11 => Config.patternCount
  | 12 => s.tilesW
  | 13 => s.tilesH
  | 14 => s.pixelBytes p
  | 15 => p.ifVersion
  | _ => 0

/-- GET_INFO (R214): acts in every phase and changes nothing. -/
def execGetInfo (sel : Half) (s : State) : Outcome := finish (BitVec.ofNat 32 (info Config.rgx s sel.toNat)) s

end Sys2Proof.Machine
end

