-- ==== Sys2Proof/Machine/Palette.lean ====
section
/-!
DEFINITION. The palette commands (spec 41_canvas_and_palette.md R134 to R139): GET_COLOUR, SET_COLOUR, READ_PALETTE,
WRITE_PALETTE.
-/

namespace Sys2Proof.Machine

open Config (Params)

/-- GET_COLOUR for any parameters (R134). -/
def getColour (p : Params) (index : Half) (s : State) : Outcome :=
  if s.phase = .unconfigured then noop s
  else onLegal p s (finish ((palEntry s (s.maskColour index.toNat)).setWidth 32) s)

/-- GET_COLOUR (R134). -/
def execGetColour (index : Half) (s : State) : Outcome := getColour Config.rgx index s

/-- SET_COLOUR for any parameters (R135). -/
def setColour (p : Params) (index : Half) (colour : Colour) (s : State) : Outcome :=
  if s.phase = .modifying then
    onLegal p s (finish 0 (s.withPal (Memory.write s.pal (s.maskColour index.toNat) colour)))
  else noop s

/-- SET_COLOUR (R135). -/
def execSetColour (index : Half) (colour : Colour) (s : State) : Outcome := setColour Config.rgx index colour s

/-- The palette as the bytes of a colour array (R53, R136). -/
def paletteBytes (s : State) : List Byte := (List.range s.colourCount).flatMap fun i => colourWord (palEntry s i)

/-- READ_PALETTE for any parameters (R136): the loop's writes are at consecutive addresses from `out`. -/
def readPalette (p : Params) (out : Word) (s : State) : Outcome :=
  if s.phase = .unconfigured ∨ out = 0 then noop s
  else onLegal p s (finish 0 (s.withHostMem (hostWriteBytes p s.hostMem out.toNat (paletteBytes s))))

/-- READ_PALETTE (R136). -/
def execReadPalette (out : Word) (s : State) : Outcome := readPalette Config.rgx out s

/-- The Colours of a colour array in host memory (R53, R138). -/
def paletteAt (p : Params) (s : State) (base : Nat) : List Colour :=
  (List.range s.colourCount).map fun i => wordColour (hostRead p s (base + 4 * i) 4)

/-- WRITE_PALETTE for any parameters (R138). -/
def writePalette (p : Params) (src : Word) (s : State) : Outcome :=
  if s.phase ≠ .modifying ∨ src = 0 then noop s
  else onLegal p s (finish 0 (s.withPal (Memory.writeList s.pal 0 (paletteAt p s src.toNat))))

/-- WRITE_PALETTE (R138). -/
def execWritePalette (src : Word) (s : State) : Outcome := writePalette Config.rgx src s

end Sys2Proof.Machine
end

