-- ==== Sys2Proof/Machine/Pattern.lean ====
section
/-!
DEFINITION. The pattern store (spec 40_pixel_codec_and_pattern_store.md R102 to R109): READ_PATTERN, WRITE_PATTERN.
-/

namespace Sys2Proof.Machine

open Config (Params)

/-- The bytes of a pattern as they stand in pattern RAM (R57, R103). -/
def patternBytesOf (s : State) (index : Nat) : List Byte :=
  (List.range (8 * s.depth.toNat)).map fun i => patByte s (s.patBase index + i)

/-- A pattern transfer that is not a copy: a no-op, or, for a pair of `CONV_IMPLEMENTED`, no described effect (R102, R108; log
entry 9). -/
def transfer (p : Params) (bits : Half) (copied : State) (s : State) : Outcome :=
  match xfer p s.depth.toNat bits.toNat with
  | .copy => onLegal p s (finish 0 copied)
  | .convert => .refused (.conversionUndescribed s.depth.toNat bits.toNat)
  | .none => noop s

/-- READ_PATTERN for any parameters (R103). -/
def readPattern (p : Params) (index bits : Half) (out : Word) (s : State) : Outcome :=
  if s.phase = .unconfigured ∨ out = 0 then noop s
  else transfer p bits (s.withHostMem (hostWriteBytes p s.hostMem out.toNat (patternBytesOf s index.toNat))) s

/-- READ_PATTERN (R103). -/
def execReadPattern (index bits : Half) (out : Word) (s : State) : Outcome := readPattern Config.rgx index bits out s

/-- WRITE_PATTERN for any parameters (R105). -/
def writePattern (p : Params) (index bits : Half) (src : Word) (s : State) : Outcome :=
  if s.phase ≠ .modifying ∨ src = 0 then noop s
  else transfer p bits (s.withPat
    (Memory.writeList s.pat (s.patBase index.toNat) (hostRead p s src.toNat (8 * s.depth.toNat)))) s

/-- WRITE_PATTERN (R105). -/
def execWritePattern (index bits : Half) (src : Word) (s : State) : Outcome :=
  writePattern Config.rgx index bits src s

end Sys2Proof.Machine
end

