-- ==== Sys2Proof/Machine/Pixel.lean ====
section
/-!
DEFINITION. Single pixels (spec 41_canvas_and_palette.md R130 to R133): GET_PIXEL, SET_PIXEL.
-/

namespace Sys2Proof.Machine

open Config (Params)

/-- GET_PIXEL for any parameters (R130): 0 outside Rendering and outside the screen. -/
def getPixel (p : Params) (x y : Int) (s : State) : Outcome :=
  if s.phase = .rendering ∧ s.inScreen x y then
    onLegal p s (finish (BitVec.ofNat 32 (pixGet p s x.toNat y.toNat)) s)
  else noop s

/-- GET_PIXEL (R130). -/
def execGetPixel (x y : Int) (s : State) : Outcome := getPixel Config.rgx x y s

/-- SET_PIXEL for any parameters (R132): acts in the phase `SETPIXEL_GATE` names. -/
def setPixel (p : Params) (x y : Int) (index : Half) (s : State) : Outcome :=
  if s.phase = gatePhase p.setPixelGate ∧ s.inScreen x y then
    onLegal p s (finish 0 (s.withPix (pixPutIn p s s.pix x.toNat y.toNat (s.maskColour index.toNat))))
  else noop s

/-- SET_PIXEL (R132). -/
def execSetPixel (x y : Int) (index : Half) (s : State) : Outcome := setPixel Config.rgx x y index s

end Sys2Proof.Machine
end

