-- ==== Sys2Proof/Machine/Sprite.lean ====
section
/-!
DEFINITION. The sprite blitter (spec 42_draw_sprite.md): DRAW_SPRITE as the loops of R160, and its loop-free form of R167.
-/

namespace Sys2Proof.Machine

open Config (Params)

/-- The operands of DRAW_SPRITE (R160). -/
structure SpriteArgs where
  x : Int
  y : Int
  pattern : Nat
  palette : Nat
  hflip : Bool
  vflip : Bool
  hwrap : Bool
  vwrap : Bool
deriving DecidableEq, Repr

/-- The pattern sample at loop indices (sample_x, sample_y), flips applied (R163). -/
def spriteSample (s : State) (a : SpriteArgs) (sx sy : Nat) : Nat :=
  patSample s a.pattern (flipped a.hflip sx) (flipped a.vflip sy)

/-- A non-zero sample remapped, if a table is given, and masked (R165). -/
def spriteColour (p : Params) (s : State) (a : SpriteArgs) (v : Nat) : Nat :=
  s.maskColour (if a.palette ≠ 0 then remap p s a.palette v else v)

/-- Steps 3 to 5 for one sample at destination (dx, dy): a sample of 0 is transparent (R163 to R165). -/
def spritePlot (p : Params) (s : State) (a : SpriteArgs) (sx sy dx dy : Nat) (m : Memory 8) : Memory 8 :=
  if spriteSample s a sx sy = 0 then m
  else pixPutIn p s m dx dy (spriteColour p s a (spriteSample s a sx sy))

/-- The x-axis decision of DRAW_SPRITE (R160). -/
def spriteColStep (s : State) (a : SpriteArgs) : Nat → AxisStep :=
  axisStep (axisOrigin a.x a.hwrap s.canvasW.toNat) a.hwrap s.canvasW.toNat s.screenW.toNat

/-- The y-axis decision of DRAW_SPRITE (R160). -/
def spriteRowStep (s : State) (a : SpriteArgs) : Nat → AxisStep :=
  axisStep (axisOrigin a.y a.vwrap s.canvasH.toNat) a.vwrap s.canvasH.toNat s.screenH.toNat

/-- The two loops of DRAW_SPRITE on pixel RAM (R160). -/
def spriteLoops (p : Params) (s : State) (a : SpriteArgs) : Memory 8 :=
  axisLoop (spriteRowStep s a)
    (fun sy dy m =>
      axisLoop (spriteColStep s a) (fun sx dx m => spritePlot p s a sx sy dx dy m) (List.range 8) m)
    (List.range 8) s.pix

/-- DRAW_SPRITE for any parameters (R160, R166). -/
def drawSprite (p : Params) (a : SpriteArgs) (s : State) : Outcome :=
  if s.phase = .rendering then onLegal p s (finish 0 (s.withPix (spriteLoops p s a))) else noop s

/-- DRAW_SPRITE (R160). -/
def execDrawSprite (x y : Int) (pattern : Half) (palette : Word) (hflip vflip hwrap vwrap : Bool) (s : State) :
    Outcome :=
  drawSprite Config.rgx
    { x := x, y := y, pattern := pattern.toNat, palette := palette.toNat, hflip := hflip, vflip := vflip,
      hwrap := hwrap, vwrap := vwrap } s

/-- The pixel written for the pair (sample_x, sample_y), if any: the loop-free statement, with `Dest` applied to the original
coordinates (R167). -/
def spriteWrite (p : Params) (s : State) (a : SpriteArgs) (sx sy : Nat) : Option PixelWrite :=
  match dest a.x sx a.hwrap s.canvasW.toNat s.screenW.toNat, dest a.y sy a.vwrap s.canvasH.toNat s.screenH.toNat with
  | some dx, some dy =>
    if spriteSample s a sx sy = 0 then none else some (dx, dy, spriteColour p s a (spriteSample s a sx sy))
  | _, _ => none

/-- All pixel writes of DRAW_SPRITE (R167). -/
def spriteWrites (p : Params) (s : State) (a : SpriteArgs) : List PixelWrite :=
  (List.range 8).flatMap fun sy => (List.range 8).filterMap fun sx => spriteWrite p s a sx sy

end Sys2Proof.Machine
end

