-- ==== Sys2Proof/Machine/Tiles.lean ====
section
/-!
DEFINITION. The tile-grid blitter (spec 43_draw_tiles.md): DRAW_TILES as the loops of R180, and its loop-free form of R187.
-/

namespace Sys2Proof.Machine

open Config (Params)

/-- The operands of DRAW_TILES (R180). -/
structure TileArgs where
  x : Int
  y : Int
  tiles : Nat
  palettes : Nat
  hwrap : Bool
  vwrap : Bool
  transparent : Bool
deriving DecidableEq, Repr

/-- The record of the cell that grid pixel (col, row) falls in (R182, R183). -/
def gridTile (p : Params) (s : State) (a : TileArgs) (col row : Nat) : Tile :=
  tileAt p s a.tiles (col >>> 3) (row >>> 3)

/-- The pattern sample of grid pixel (col, row), the tile's own flips applied (R182, R184). -/
def gridSample (p : Params) (s : State) (a : TileArgs) (col row : Nat) : Nat :=
  patSample s (gridTile p s a col row).pattern (flipped (gridTile p s a col row).hflip (col &&& 7))
    (flipped (gridTile p s a col row).vflip (row &&& 7))

/-- The value of grid pixel (col, row): its sample through the tile's own table, masked (R185). -/
def gridColour (p : Params) (s : State) (a : TileArgs) (col row : Nat) : Nat :=
  s.maskColour (remapT p s a.palettes (gridTile p s a col row).palette (gridSample p s a col row))

/-- One grid pixel at destination (dx, dy): a sample of 0 is skipped when `transparent` (R185). -/
def gridPlot (p : Params) (s : State) (a : TileArgs) (col row dx dy : Nat) (m : Memory 8) : Memory 8 :=
  if gridSample p s a col row = 0 ∧ a.transparent = true then m
  else pixPutIn p s m dx dy (gridColour p s a col row)

/-- The x-axis decision of DRAW_TILES (R180). -/
def gridColStep (s : State) (a : TileArgs) : Nat → AxisStep :=
  axisStep (axisOrigin a.x a.hwrap s.canvasW.toNat) a.hwrap s.canvasW.toNat s.screenW.toNat

/-- The y-axis decision of DRAW_TILES (R180). -/
def gridRowStep (s : State) (a : TileArgs) : Nat → AxisStep :=
  axisStep (axisOrigin a.y a.vwrap s.canvasH.toNat) a.vwrap s.canvasH.toNat s.screenH.toNat

/-- The two loops of DRAW_TILES on pixel RAM, over every canvas row and column (R180, R181). -/
def gridLoops (p : Params) (s : State) (a : TileArgs) : Memory 8 :=
  axisLoop (gridRowStep s a)
    (fun row dy m =>
      axisLoop (gridColStep s a) (fun col dx m => gridPlot p s a col row dx dy m) (List.range s.canvasW.toNat) m)
    (List.range s.canvasH.toNat) s.pix

/-- DRAW_TILES for any parameters (R180, R186). -/
def drawTiles (p : Params) (a : TileArgs) (s : State) : Outcome :=
  if s.phase ≠ .rendering ∨ a.tiles = 0 ∨ a.palettes = 0 then noop s
  else onLegal p s (finish 0 (s.withPix (gridLoops p s a)))

/-- DRAW_TILES (R180). -/
def execDrawTiles (x y : Int) (tiles palettes : Word) (hwrap vwrap transparent : Bool) (s : State) : Outcome :=
  drawTiles Config.rgx
    { x := x, y := y, tiles := tiles.toNat, palettes := palettes.toNat, hwrap := hwrap, vwrap := vwrap,
      transparent := transparent } s

/-- The pixel written for grid pixel (col, row), if any: the loop-free statement (R187). -/
def gridWrite (p : Params) (s : State) (a : TileArgs) (col row : Nat) : Option PixelWrite :=
  match dest a.x col a.hwrap s.canvasW.toNat s.screenW.toNat, dest a.y row a.vwrap s.canvasH.toNat s.screenH.toNat with
  | some dx, some dy =>
    if gridSample p s a col row = 0 ∧ a.transparent = true then none else some (dx, dy, gridColour p s a col row)
  | _, _ => none

/-- All pixel writes of DRAW_TILES (R187). -/
def gridWrites (p : Params) (s : State) (a : TileArgs) : List PixelWrite :=
  (List.range s.canvasH.toNat).flatMap fun row =>
    (List.range s.canvasW.toNat).filterMap fun col => gridWrite p s a col row

end Sys2Proof.Machine
end

