-- ==== Sys2Proof/Machine/Dispatch.lean ====
section
/-! DEFINITION. Which meaning each command has: one arm per constructor of Instr (spec 30_encoding.md R76). -/

namespace Sys2Proof.Machine

def exec (i : Instr) (s : State) : Host.Outcome State Fault Refusal :=
  match i with
  | .configure cw ch sw sh bpp fr => Sys2Proof.Machine.execConfigure cw ch sw sh bpp fr s
  | .teardown => Sys2Proof.Machine.execTeardown s
  | .modifyEnter => Sys2Proof.Machine.execModifyEnter s
  | .modifyExit => Sys2Proof.Machine.execModifyExit s
  | .renderEnter => Sys2Proof.Machine.execRenderEnter s
  | .renderExit => Sys2Proof.Machine.execRenderExit s
  | .clear => Sys2Proof.Machine.execClear s
  | .present => Sys2Proof.Machine.execPresent s
  | .getInfo sel => Sys2Proof.Machine.execGetInfo sel s
  | .getColour index => Sys2Proof.Machine.execGetColour index s
  | .setColour index colour => Sys2Proof.Machine.execSetColour index colour s
  | .readPalette out => Sys2Proof.Machine.execReadPalette out s
  | .writePalette src => Sys2Proof.Machine.execWritePalette src s
  | .readPattern index bits out => Sys2Proof.Machine.execReadPattern index bits out s
  | .writePattern index bits src => Sys2Proof.Machine.execWritePattern index bits src s
  | .getPixel x y => Sys2Proof.Machine.execGetPixel x y s
  | .setPixel x y index => Sys2Proof.Machine.execSetPixel x y index s
  | .drawSprite x y pattern palette hf vf hw vw => Sys2Proof.Machine.execDrawSprite x y pattern palette hf vf hw vw s
  | .drawTiles x y tiles palettes hw vw tr => Sys2Proof.Machine.execDrawTiles x y tiles palettes hw vw tr s

end Sys2Proof.Machine
end

