-- ==== Sys2Proof/Machine/HostPort.lean ====
section
/-!
DEFINITION. The host's side: taking the next host event, the reset input (spec 70_reset_and_hazards.md R260), a write of host
memory between commands (20_memory.md R58, R59), and what a reserved opcode does (30_encoding.md R77).
-/

namespace Sys2Proof.Machine

/-- The next host event and the state with it taken, or none while the host does nothing (log entry 1). -/
def takeEvent (s : State) : Option (HostEvent × State) :=
  match s.inputs with
  | [] => none
  | e :: rest => some (e, s.withInputs rest)

/-- The reset input (R260): the block as R32 says, RAM contents unspecified; host memory and what the host does next are not part
of the block (R11). Log entries 12, 5. -/
def resetBlock (s : State) : State :=
  { State.reset with ramEpoch := s.ramEpoch + 1, hostMem := s.hostMem, inputs := s.inputs }

/-- The host writes one byte of its own memory (R11, R59). -/
def hostStore (address : Word) (value : Byte) (s : State) : State :=
  s.withHostMem (Memory.write s.hostMem address.toNat value)

/-- A packet with a reserved opcode executes as `noop` in every phase (R77; log entry 8). -/
def execReserved (s : State) : Outcome := noop s

end Sys2Proof.Machine
end

