-- ==== Sys2Proof/Machine/Step.lean ====
section
/-!
DEFINITION. One step: the next host event is served; a command packet is decoded and executed as one atomic step (spec
20_memory.md R58). RGX fetches nothing of its own (R28, R62): with no event pending it does nothing.
-/

namespace Sys2Proof.Machine

/-- One step of the machine (R2, R58, R77, R260). -/
def step (s : State) : Host.Outcome State Fault Refusal :=
  match takeEvent s with
  | none => .next s
  | some (.command w, s') =>
    match decode w with
    | .ok i => exec i s'
    | .error _ => execReserved s'
  | some (.reset, s') => .next (resetBlock s')
  | some (.hostWrite address value, s') => .next (hostStore address value s')

/-- `s` with the packet of an opcode-table word delivered next (log entry 1). -/
def State.withFetchWord (s : State) (nbits w : Nat) : State :=
  s.withInputs (.command (packetOfTableWord nbits w) :: s.inputs)

end Sys2Proof.Machine
end

