-- ==== Sys2Proof/Safety.lean ====
section
/-!
DEFINITION. The terms in which claims about RGX are stated: a completed step, the invariant of the machine, the padding bytes,
the phase table, which packet bits a command looks at.
-/

namespace Sys2Proof.Machine

open Config (Params)

/-- The step or command answers a next state: no fault, no refusal. -/
def Completes (o : Outcome) : Prop := ∃ t, o = .next t

/-- The outcome with its next state changed by `f`; a fault or a refusal stays as it is. -/
def mapNext (f : State → State) : Outcome → Outcome
  | .next t => .next (f t)
  | .fault r => .fault r
  | .refused r => .refused r

/-- The thirteen commands that do not touch host memory (R60). -/
def leavesHostMemory : Instr → Bool
  | .configure _ _ _ _ _ _ => true
  | .teardown => true
  | .modifyEnter => true
  | .modifyExit => true
  | .renderEnter => true
  | .renderExit => true
  | .clear => true
  | .present => true
  | .getInfo _ => true
  | .getColour _ => true
  | .setColour _ _ => true
  | .readPalette _ => false
  | .writePalette _ => false
  | .readPattern _ _ _ => false
  | .writePattern _ _ _ => false
  | .getPixel _ _ => true
  | .setPixel _ _ _ => true
  | .drawSprite _ _ _ _ _ _ _ _ => false
  | .drawTiles _ _ _ _ _ _ _ => false

/-- The two commands that write host memory (R60). -/
def writesHostMemory : Instr → Bool
  | .configure _ _ _ _ _ _ => false
  | .teardown => false
  | .modifyEnter => false
  | .modifyExit => false
  | .renderEnter => false
  | .renderExit => false
  | .clear => false
  | .present => false
  | .getInfo _ => false
  | .getColour _ => false
  | .setColour _ _ => false
  | .readPalette _ => true
  | .writePalette _ => false
  | .readPattern _ _ _ => true
  | .writePattern _ _ _ => false
  | .getPixel _ _ => false
  | .setPixel _ _ _ => false
  | .drawSprite _ _ _ _ _ _ _ _ => false
  | .drawTiles _ _ _ _ _ _ _ => false

/-- The machine's invariant: the registers are 0 in Unconfigured (R32) and legal in every other phase (R14 to R17, R205); every
memory is in its canonical form and lists only bytes in use (R40, R41). -/
structure State.Inv (p : Params) (s : State) : Prop where
  unconfigured_zero : s.phase = .unconfigured →
    s.canvasW = 0 ∧ s.canvasH = 0 ∧ s.screenW = 0 ∧ s.screenH = 0 ∧ s.depth = 0 ∧ s.frameRate = 0
  configured_legal : s.phase ≠ .unconfigured → s.configLegal p = true
  pal_wf : Memory.wf s.pal
  pat_wf : Memory.wf s.pat
  pix_wf : Memory.wf s.pix
  host_wf : Memory.wf s.hostMem
  pal_in_use : Memory.below s.pal s.colourCount
  pat_in_use : Memory.below s.pat s.patternBytes
  pix_in_use : Memory.below s.pix (s.pixelBytes p)
  host_in_space : Memory.below s.hostMem (2 ^ p.hostAddrBits)

/-- Byte `a` of pixel RAM is in use and is padding of its row (R25, R47). -/
def State.isPadding (p : Params) (s : State) (a : Nat) : Prop := a < s.pixelBytes p ∧ s.rowBytes ≤ a % s.stride p

/-- Every padding byte in use holds 0 (R26). -/
def State.PaddingZero (p : Params) (s : State) : Prop := ∀ a, s.isPadding p a → pixByte s a = 0

/-- The phase table: in which phases a command acts, with the default `SETPIXEL_GATE` (R250). -/
def actsIn : Instr → Phase → Bool
  | .configure _ _ _ _ _ _, ph => ph == .unconfigured
  | .teardown, ph => ph == .ready
  | .modifyEnter, ph => ph == .ready
  | .modifyExit, ph => ph == .modifying
  | .renderEnter, ph => ph == .ready
  | .renderExit, ph => ph == .rendering
  | .clear, ph => ph == .ready
  | .present, ph => ph == .ready
  | .getInfo _, _ => true
  | .getColour _, ph => ph != .unconfigured
  | .readPalette _, ph => ph != .unconfigured
  | .readPattern _ _ _, ph => ph != .unconfigured
  | .setColour _ _, ph => ph == .modifying
  | .writePalette _, ph => ph == .modifying
  | .writePattern _ _ _, ph => ph == .modifying
  | .setPixel _ _ _, ph => ph == .modifying
  | .getPixel _ _, ph => ph == .rendering
  | .drawSprite _ _ _ _ _ _ _ _, ph => ph == .rendering
  | .drawTiles _ _ _ _ _ _ _, ph => ph == .rendering

/-- The nineteen values of `OPCODE` that are commands (R76). -/
def commandOpcodes : List Byte :=
  [0x01, 0x02, 0x03, 0x04, 0x05, 0x06, 0x07, 0x08, 0x09, 0x10, 0x11, 0x12, 0x13, 0x14, 0x15, 0x18, 0x19, 0x20, 0x21]

/-- The packet bits that R71 to R73 list for an opcode; every other bit is reserved for it (R78). -/
def listedBits (opcode : Byte) : Packet :=
  match opcode.toNat with
  | 0x01 => 0xFFFFFFFFFFFFFFFFFFFFFFFF000000FF#128
  | 0x09 => 0x000000000000000000000000FFFF00FF#128
  | 0x10 => 0x000000000000000000000000FFFF00FF#128
  | 0x11 => 0x0000000000FFFFFF00000000FFFF00FF#128
  | 0x12 => 0x00000000FFFFFFFF00000000000000FF#128
  | 0x13 => 0x00000000FFFFFFFF00000000000000FF#128
  | 0x14 => 0x00000000FFFFFFFF0000FFFFFFFF00FF#128
  | 0x15 => 0x00000000FFFFFFFF0000FFFFFFFF00FF#128
  | 0x18 => 0x0000000000000000FFFFFFFF000000FF#128
  | 0x19 => 0x0000000000000000FFFFFFFFFFFF00FF#128
  | 0x20 => 0x00000000FFFFFFFFFFFFFFFFFFFF0FFF#128
  | 0x21 => 0xFFFFFFFFFFFFFFFFFFFFFFFF00001CFF#128
  | _ => 0x000000000000000000000000000000FF#128

/-- The opcode of a command (R76). -/
def opcodeOf : Instr → Byte
  | .configure _ _ _ _ _ _ => 0x01
  | .teardown => 0x02
  | .modifyEnter => 0x03
  | .modifyExit => 0x04
  | .renderEnter => 0x05
  | .renderExit => 0x06
  | .clear => 0x07
  | .present => 0x08
  | .getInfo _ => 0x09
  | .getColour _ => 0x10
  | .setColour _ _ => 0x11
  | .readPalette _ => 0x12
  | .writePalette _ => 0x13
  | .readPattern _ _ _ => 0x14
  | .writePattern _ _ _ => 0x15
  | .getPixel _ _ => 0x18
  | .setPixel _ _ _ => 0x19
  | .drawSprite _ _ _ _ _ _ _ _ => 0x20
  | .drawTiles _ _ _ _ _ _ _ => 0x21

end Sys2Proof.Machine
end

