-- ==== Sys2Proof/Certificates/Slice0/Obligations.lean ====
section
/-!
DEFINITION. The statements about RGX. Each docstring names the rule of the spec it formalises; `Config.rgx` is RGX with the
parameter values of 00_scope.md R6. Registers are read as numbers with `toNat`; `2 ^ s.depth.toNat` is the colour count of a
configured state (R18).
-/

open Sys2Proof Sys2Proof.Machine
open Sys2Proof.Config (Params)

/-! ### Encoding -/

/-- Decoding an encoded command gives it back, as a packet and as 16 bytes, for every operand the encoding admits (R70 to R76). -/
def Obligations.DecodeOfEncode : Prop :=
  ∀ i : Instr, i.wellFormed = true → decode (encode i) = .ok i ∧ decodeBytes (encodeBytes i) = .ok i

/-- The worked encoding of R83, as words and as bytes. -/
def Obligations.WorkedSpriteEncoding : Prop :=
  encode (.drawSprite (-1) 0 1 0 false false true false) = 0x00000000000000000000FFFF00010420#128 ∧
    decode 0x00000000000000000000FFFF00010420#128 = .ok (.drawSprite (-1) 0 1 0 false false true false) ∧
    encodeBytes (.drawSprite (-1) 0 1 0 false false true false) =
      [0x20, 0x04, 0x01, 0x00, 0xFF, 0xFF, 0, 0, 0, 0, 0, 0, 0, 0, 0, 0]

/-- A few of the packets of 95_test_vectors.md section 2.8 decode to the commands they stand for, and two to reserved opcodes. -/
def Obligations.KnownPacketsDecode : Prop :=
  decode 0x001E0001000800100008001000000001#128 = .ok (.configure 16 8 16 8 1 30) ∧
    decode 0x0000000000ABCDEF0000000000030011#128 = .ok (.setColour 3 0xABCDEF) ∧
    decode 0x00000000000030000000000400020015#128 = .ok (.writePattern 2 4 0x3000) ∧
    decode 0x00000000000000000003FFFF00000018#128 = .ok (.getPixel (-1) 3) ∧
    decode 0x0000000000001300FFFD000C00010F20#128 = .ok (.drawSprite 12 (-3) 1 0x1300 true true true true) ∧
    decode 0x00006000000050000003FFFC00001C21#128 = .ok (.drawTiles (-4) 3 0x5000 0x6000 true true true) ∧
    decode 0x0FEDCBA99ABCDEF0123456780001FF07#128 = .ok .clear ∧
    decode 0x000000000000000000000004FFFFE020#128 = .ok (.drawSprite 4 0 0xFFFF 0 false false false false) ∧
    decode 0#128 = .error (.reservedOpcode 0) ∧
    decode 0xFFFFFFFFFFFFFFFFFFFFFFFFFFFFFF16#128 = .error (.reservedOpcode 0x16)

/-- Reserved fields and bits are ignored: packets that agree on the bits listed for the opcode decode alike, and bits 7:1 of a
tile's flip bytes and byte 3 of a colour word do not matter (R78). -/
def Obligations.ReservedBitsAreIgnored : Prop :=
  (∀ w w' : Packet, w &&& listedBits w.opcode = w' &&& listedBits w.opcode → decode w = decode w') ∧
    (∀ b0 b1 b2 b3 : Byte, tileOfBytes [b0, b1, b2, b3] = tileOfBytes [b0, b1, b2 &&& 1, b3 &&& 1]) ∧
    ∀ b0 b1 b2 b3 : Byte, wordColour [b0, b1, b2, b3] = wordColour [b0, b1, b2, 0]

/-- Every packet decodes to a well-formed command of its own opcode, or to its reserved opcode (R80). -/
def Obligations.DecodingIsTotal : Prop :=
  ∀ w : Packet,
    (w.opcode ∈ commandOpcodes ∧ ∃ i, decode w = .ok i ∧ opcodeOf i = w.opcode ∧ i.wellFormed = true) ∨
      (w.opcode ∉ commandOpcodes ∧ decode w = .error (.reservedOpcode w.opcode))

/-! ### Steps and reset -/

/-- A step at a delivered packet that decodes to a command is that command, the packet taken off the channel (R2, R58). -/
def Obligations.StepRunsDecodedCommand : Prop :=
  ∀ (s : State) (w : Packet) (rest : List HostEvent) (i : Instr),
    s.inputs = .command w :: rest → decode w = .ok i → step s = exec i (s.withInputs rest)

/-- A packet with one of the 237 reserved opcodes executes as `noop` in every phase (R77). -/
def Obligations.ReservedOpcodeIsNoop : Prop :=
  (∀ (s : State) (w : Packet) (rest : List HostEvent), s.inputs = .command w :: rest → w.opcode ∉ commandOpcodes →
      step s = .next ((s.withInputs rest).withResult 0)) ∧
    ((List.range 256).filter fun n => !commandOpcodes.contains (BitVec.ofNat 8 n)).length = 237

/-- The host's other events, the model's own form of them (log entries 1, 2, 4, 5 and 12): nothing delivered changes nothing; a write of
host memory changes that one byte; the reset input gives the reset values, RAM contents unspecified (nothing listed), streams
empty, no result, and leaves host memory alone (R260, R59). -/
def Obligations.HostEventsStep : Prop :=
  (∀ s : State, s.inputs = [] → step s = .next s) ∧
    (∀ (s : State) (a : Word) (v : Byte) (rest : List HostEvent), s.inputs = .hostWrite a v :: rest →
      ∃ t, step s = .next t ∧ hostByteAt Config.rgx t a.toNat = v ∧
        (∀ b, hostAddr Config.rgx b ≠ a.toNat → hostByteAt Config.rgx t b = hostByteAt Config.rgx s b) ∧
        t = (s.withInputs rest).withHostMem t.hostMem) ∧
    ∀ (s : State) (rest : List HostEvent), s.inputs = .reset :: rest →
      ∃ t, step s = .next t ∧ t.phase = .unconfigured ∧ t.canvasW = 0 ∧ t.canvasH = 0 ∧ t.screenW = 0 ∧ t.screenH = 0 ∧
        t.depth = 0 ∧ t.frameRate = 0 ∧ t.pal = [] ∧ t.pat = [] ∧ t.pix = [] ∧ t.output = [] ∧ t.presenter = [] ∧
        t.result = none ∧ t.hostMem = s.hostMem ∧ t.inputs = rest

/-- The values after reset, and the same values of phase and registers after TEARDOWN, which leaves the streams (R32). That RAM
contents are unspecified is that nothing is listed (log entry 4); that no result stands after reset is the model's choice (log
entry 2). -/
def Obligations.ValuesAfterResetAndTeardown : Prop :=
  (State.reset.phase.code = 0 ∧ State.reset.canvasW = 0 ∧ State.reset.canvasH = 0 ∧ State.reset.screenW = 0 ∧
    State.reset.screenH = 0 ∧ State.reset.depth = 0 ∧ State.reset.frameRate = 0 ∧ State.reset.colourCount = 0 ∧
    State.reset.bytesPerPattern = 0 ∧ State.reset.rowBytes = 0 ∧ State.reset.stride Config.rgx = 0 ∧
    State.reset.pal = [] ∧ State.reset.pat = [] ∧ State.reset.pix = [] ∧ State.reset.output = [] ∧
    State.reset.presenter = [] ∧ State.reset.result = none) ∧
    ∀ s : State, s.phase = .ready →
      ∃ t, exec .teardown s = .next t ∧ t.phase = .unconfigured ∧ t.canvasW = 0 ∧ t.canvasH = 0 ∧ t.screenW = 0 ∧
        t.screenH = 0 ∧ t.depth = 0 ∧ t.frameRate = 0 ∧ t.pal = [] ∧ t.pat = [] ∧ t.pix = [] ∧ t.output = s.output ∧
        t.presenter = s.presenter

/-! ### Invariants and whole-machine rules -/

/-- The invariant holds after reset (R32). -/
def Obligations.InvariantHoldsAtReset : Prop := State.reset.Inv Config.rgx

/-- Every step keeps the invariant: registers 0 in Unconfigured and legal elsewhere, memories in their canonical form and
listing only bytes in use (R14 to R17, R32, R40, R41). -/
def Obligations.EveryStepKeepsInvariant : Prop :=
  ∀ s t : State, s.Inv Config.rgx → step s = .next t → t.Inv Config.rgx

/-- From a state of the invariant every step answers a next state: RGX has no trap, no bus error and no illegal-command trap
(R52, R77, R248). -/
def Obligations.StepNeverStops : Prop := ∀ s : State, s.Inv Config.rgx → Completes (step s)

/-- No command but CLEAR changes a padding byte, and padding that is 0 stays 0 (R26, R48). -/
def Obligations.PaddingBytesKept : Prop :=
  ∀ (i : Instr) (s t : State), s.Inv Config.rgx → s.phase ≠ .unconfigured → exec i s = .next t →
    t.phase ≠ .unconfigured →
    (i ≠ .clear → ∀ a, s.isPadding Config.rgx a → pixByte t a = pixByte s a) ∧
      (s.PaddingZero Config.rgx → t.PaddingZero Config.rgx)

/-- The legal transitions of the phase are the seven of the table, and each of them happens: CONFIGURE succeeds where both storages
fit the RAMs and fails where one does not, for all values of the parameters (R13). -/
def Obligations.PhaseTransitions : Prop :=
  (∀ (i : Instr) (s t : State), exec i s = .next t →
    t.phase = s.phase ∨
      (opcodeOf i = 0x01 ∧ s.phase = .unconfigured ∧ t.phase = .ready ∧ t.result = some 1) ∨
      (i = .modifyEnter ∧ s.phase = .ready ∧ t.phase = .modifying) ∨
      (i = .modifyExit ∧ s.phase = .modifying ∧ t.phase = .ready) ∨
      (i = .renderEnter ∧ s.phase = .ready ∧ t.phase = .rendering) ∨
      (i = .renderExit ∧ s.phase = .rendering ∧ t.phase = .ready) ∨
      (i = .teardown ∧ s.phase = .ready ∧ t.phase = .unconfigured)) ∧
    (∀ (p : Params) (cw ch sw sh bpp fr : Int) (s : State), s.phase = .unconfigured →
      ((patternNeed (clampRequests cw ch sw sh bpp fr) ≤ p.patternRamBytes ∧
          pixelNeed p (clampRequests cw ch sw sh bpp fr) ≤ p.pixelRamBytes) →
        ∃ t, configure p cw ch sw sh bpp fr s = .next t ∧ t.result = some 1 ∧ t.phase = .ready) ∧
      ((p.patternRamBytes < patternNeed (clampRequests cw ch sw sh bpp fr) ∨
          p.pixelRamBytes < pixelNeed p (clampRequests cw ch sw sh bpp fr)) →
        ∃ t, configure p cw ch sw sh bpp fr s = .next t ∧ t.result = some 0 ∧ t.phase = .unconfigured)) ∧
    (∀ s : State, s.phase = .ready → ∃ t, exec .modifyEnter s = .next t ∧ t.phase = .modifying) ∧
    (∀ s : State, s.phase = .modifying → ∃ t, exec .modifyExit s = .next t ∧ t.phase = .ready) ∧
    (∀ s : State, s.phase = .ready → ∃ t, exec .renderEnter s = .next t ∧ t.phase = .rendering) ∧
    (∀ s : State, s.phase = .rendering → ∃ t, exec .renderExit s = .next t ∧ t.phase = .ready) ∧
    ∀ s : State, s.phase = .ready → ∃ t, exec .teardown s = .next t ∧ t.phase = .unconfigured

/-- A command in a phase where the table of R250 has no `a` for it is a silent no-op: result 0 and nothing else (R212, R246, R250;
the spec's decisions D18, D20). The row of SET_PIXEL is that of the default `SETPIXEL_GATE` (decision D19), the model's choice of
log entry 11. -/
def Obligations.OutOfPhaseCommandIsNoop : Prop :=
  ∀ (i : Instr) (s : State), actsIn i s.phase = false → exec i s = .next (s.withResult 0)

/-- The other silent no-ops of R246: a null buffer, a null tile or table array, a `bits` that is no depth or one of the three
pairs the source settles (R104, U2; nothing is said of the nine pairs of U1), a coordinate outside the screen. -/
def Obligations.SilentNoops : Prop :=
  (∀ s : State, exec (.readPalette 0) s = .next (s.withResult 0) ∧ exec (.writePalette 0) s = .next (s.withResult 0)) ∧
    (∀ (s : State) (index bits : Half), exec (.readPattern index bits 0) s = .next (s.withResult 0) ∧
      exec (.writePattern index bits 0) s = .next (s.withResult 0)) ∧
    (∀ (s : State) (x y : Int) (tiles palettes : Word) (hw vw tr : Bool), tiles = 0 ∨ palettes = 0 →
      exec (.drawTiles x y tiles palettes hw vw tr) s = .next (s.withResult 0)) ∧
    (∀ (s : State) (index bits : Half) (ptr : Word),
      bits.toNat ∉ [1, 2, 4, 8] ∨ (s.depth.toNat = 2 ∧ bits.toNat ∈ [1, 4, 8]) →
      exec (.readPattern index bits ptr) s = .next (s.withResult 0) ∧
        exec (.writePattern index bits ptr) s = .next (s.withResult 0)) ∧
    ∀ (s : State) (x y : Int) (index : Half),
      x < 0 ∨ (s.screenW.toNat : Int) ≤ x ∨ y < 0 ∨ (s.screenH.toNat : Int) ≤ y →
      exec (.getPixel x y) s = .next (s.withResult 0) ∧ exec (.setPixel x y index) s = .next (s.withResult 0)

/-- Only CONFIGURE and TEARDOWN change a configuration register (R14 to R17, R215 (c)). -/
def Obligations.ConfigurationIsFixed : Prop :=
  ∀ (i : Instr) (s t : State), exec i s = .next t → opcodeOf i ≠ 0x01 → i ≠ .teardown →
    t.canvasW = s.canvasW ∧ t.canvasH = s.canvasH ∧ t.screenW = s.screenW ∧ t.screenH = s.screenH ∧
      t.depth = s.depth ∧ t.frameRate = s.frameRate

/-- Both streams are append-only; only CONFIGURE emits warnings and errors and only PRESENT emits a frame, one at a time (R31,
R241, R243). -/
def Obligations.StreamsOnlyGrow : Prop :=
  ∀ (i : Instr) (s t : State), exec i s = .next t →
    (∃ events, t.output = s.output ++ events ∧ (events ≠ [] → opcodeOf i = 0x01 ∧ s.phase = .unconfigured)) ∧
      ∃ frames, t.presenter = s.presenter ++ frames ∧
        (frames ≠ [] → i = .present ∧ s.phase = .ready ∧ frames.length = 1)

/-- The result is 0 for every command but CONFIGURE, GET_INFO, GET_COLOUR and GET_PIXEL, and there is always one (R79). -/
def Obligations.ResultIsZeroForMost : Prop :=
  ∀ (i : Instr) (s t : State), exec i s = .next t →
    ∃ r, t.result = some r ∧ (r ≠ 0 → opcodeOf i ∈ ([0x01, 0x09, 0x10, 0x18] : List Byte))

/-- Thirteen commands do not touch host memory: their effect is the same whatever it holds and they leave it. READ_PALETTE and
READ_PATTERN only write it: what they store and everything else they do is the same whatever it held. The other four leave it
as it is (R60). -/
def Obligations.HostMemoryUse : Prop :=
  (∀ (i : Instr) (s : State) (m : Memory 8), leavesHostMemory i = true →
    exec i (s.withHostMem m) = mapNext (State.withHostMem m) (exec i s)) ∧
    (∀ (i : Instr) (s t t' : State) (m : Memory 8), writesHostMemory i = true → exec i s = .next t →
      exec i (s.withHostMem m) = .next t' →
      t' = t.withHostMem t'.hostMem ∧
        ∀ a, hostByteAt Config.rgx t' a = hostByteAt Config.rgx t a ∨
          (hostByteAt Config.rgx t' a = hostByteAt Config.rgx (s.withHostMem m) a ∧
            hostByteAt Config.rgx t a = hostByteAt Config.rgx s a)) ∧
    ∀ (i : Instr) (s t : State), writesHostMemory i = false → exec i s = .next t → t.hostMem = s.hostMem

/-- No pixel or draw command reads palette RAM: its effect is the same whatever the palette holds (R21). -/
def Obligations.PixelsIgnorePalette : Prop :=
  ∀ (i : Instr) (s : State) (m : Memory 24), opcodeOf i ∈ ([0x07, 0x18, 0x19, 0x20, 0x21] : List Byte) →
    exec i (s.withPal m) = mapNext (State.withPal m) (exec i s)

/-! ### Context control -/

/-- CONFIGURE, opcode 0x01 with the canvas size in B and C, the screen size in P0 and depth and frame rate in P1: with RGX's
capacities every one issued in Unconfigured succeeds, and this is its whole effect (R200, R72, R6). -/
def Obligations.ConfigureSucceeds : Prop :=
  (∀ w : Packet, w.opcode = 0x01 → decode w = .ok (.configure w.fieldB.toInt w.fieldC.toInt
    (w.fieldP0.extractLsb' 0 16).toInt (w.fieldP0.extractLsb' 16 16).toInt
    (w.fieldP1.extractLsb' 0 16).toInt (w.fieldP1.extractLsb' 16 16).toInt)) ∧
  ∀ (cw ch sw sh bpp fr : Int) (s : State), s.phase = .unconfigured →
    exec (.configure cw ch sw sh bpp fr) s =
      .next (((((s.emit (configWarnings (clampRequests cw ch sw sh bpp fr) cw ch sw sh bpp fr)).withConfig
        (snapDim cw) (snapDim ch) (min (snapDim sw) (snapDim cw)) (min (snapDim sh) (snapDim ch)) (snapDepth bpp)
        (clampRate fr)).forgetRams).withPhase .ready).withResult 1)

/-- The values CONFIGURE takes: dimensions (R201), depth (R202), frame rate (R203), each as the rule describes it. -/
def Obligations.ConfiguredValues : Prop :=
  ∀ (cw ch sw sh bpp fr : Int) (s : State), s.phase = .unconfigured →
    ∃ (t : State) (dw dh : Nat), exec (.configure cw ch sw sh bpp fr) s = .next t ∧
      (∀ v n, (v, n) ∈ [(cw, t.canvasW.toNat), (ch, t.canvasH.toNat), (sw, dw), (sh, dh)] →
        (v < 8 → n = 8) ∧ (1024 < v → n = 1024) ∧
          (8 ≤ v → v ≤ 1024 → n % 8 = 0 ∧ v ≤ (n : Int) ∧ (n : Int) < v + 8)) ∧
      t.screenW.toNat = min dw t.canvasW.toNat ∧ t.screenH.toNat = min dh t.canvasH.toNat ∧
      t.depth.toNat ∈ [1, 2, 4, 8] ∧ (bpp ≤ 8 → bpp ≤ t.depth.toNat) ∧ (8 < bpp → t.depth.toNat = 8) ∧
      (∀ d ∈ [1, 2, 4, 8], bpp ≤ (d : Nat) → t.depth.toNat ≤ d) ∧
      (fr < 1 → t.frameRate.toNat = 1) ∧ (60 < fr → t.frameRate.toNat = 60) ∧
      (1 ≤ fr → fr ≤ 60 → (t.frameRate.toNat : Int) = fr)

/-- A request that is legal as given is taken as given, with no event and result 1 (R215 (b)); independent of how requests are
clamped (U10). -/
def Obligations.LegalRequestTakenAsGiven : Prop :=
  ∀ (cw ch sw sh d fr : Nat) (s : State), s.phase = .unconfigured → legalDim cw → legalDim ch → legalDim sw →
    legalDim sh → sw ≤ cw → sh ≤ ch → d ∈ [1, 2, 4, 8] → 1 ≤ fr → fr ≤ 60 →
    ∃ t, exec (.configure cw ch sw sh d fr) s = .next t ∧ t.result = some 1 ∧ t.phase = .ready ∧ t.output = s.output ∧
      t.canvasW.toNat = cw ∧ t.canvasH.toNat = ch ∧ t.screenW.toNat = sw ∧ t.screenH.toNat = sh ∧
      t.depth.toNat = d ∧ t.frameRate.toNat = fr

/-- One warning for each field whose final value differs from the request, in field order with codes 1 to 6, before any error,
whether or not the command then fails (R204). For all values of the parameters. -/
def Obligations.OneWarningPerChangedField : Prop :=
  ([.canvasW, .canvasH, .screenW, .screenH, .depth, .frameRate].map WarnCode.number = [1, 2, 3, 4, 5, 6]) ∧
  ∀ (p : Params) (cw ch sw sh bpp fr : Int) (s : State), s.phase = .unconfigured →
    ∃ (t : State) (errors : List OutputEvent), configure p cw ch sw sh bpp fr s = .next t ∧
      t.output = s.output ++
        ([(WarnCode.canvasW, snapDim cw, cw), (.canvasH, snapDim ch, ch), (.screenW, min (snapDim sw) (snapDim cw), sw),
          (.screenH, min (snapDim sh) (snapDim ch), sh), (.depth, snapDepth bpp, bpp),
          (.frameRate, clampRate fr, fr)].filter fun f => decide ((f.2.1 : Int) ≠ f.2.2)).map
          (fun f => OutputEvent.warn f.1) ++ errors ∧
      (t.result = some 1 → errors = []) ∧ (t.result ≠ some 1 → ∃ code, errors = [.error code true])

/-- At most one fatal error: the pattern check comes first, and after it nothing is left of the configuration (R244, R245). With
RGX's own capacities no check fails; the statement is for every value of the parameters (R6, U11). That the RAM lists and their
period stay as they were is the model's choice (log entry 16), and so is that 0 is written to the registers whatever they held (log
entry 18). -/
def Obligations.FatalConfigure : Prop :=
  ∀ (p : Params) (cw ch sw sh bpp fr : Int) (s : State) (c : Clamped) (warnings : List OutputEvent),
    s.phase = .unconfigured → c = clampRequests cw ch sw sh bpp fr →
    warnings = configWarnings c cw ch sw sh bpp fr →
    (p.patternRamBytes < 256 * 8 * c.d →
      ∃ t, configure p cw ch sw sh bpp fr s = .next t ∧ t.output = s.output ++ warnings ++ [.error .patternStorage true] ∧
        t = ((s.emit (warnings ++ [.error .patternStorage true])).withConfig 0 0 0 0 0 0).withResult 0) ∧
      (256 * 8 * c.d ≤ p.patternRamBytes → p.pixelRamBytes < alignUp (c.sw * c.d / 8) p.strideAlign * c.sh →
        ∃ t, configure p cw ch sw sh bpp fr s = .next t ∧ t.output = s.output ++ warnings ++ [.error .pixelStorage true] ∧
          t = ((s.emit (warnings ++ [.error .pixelStorage true])).withConfig 0 0 0 0 0 0).withResult 0)

/-- TEARDOWN, opcode 0x02: registers 0, Unconfigured, RAM contents unspecified, no event; a no-op in every other phase (R206). -/
def Obligations.TeardownReleases : Prop :=
  (∀ w : Packet, w.opcode = 0x02 → decode w = .ok .teardown) ∧
    ∀ s : State, exec .teardown s =
      .next ((if s.phase = .ready then ((s.withConfig 0 0 0 0 0 0).forgetRams).withPhase .unconfigured else s).withResult 0)

/-- The four phase commands: their opcodes, and from the phase their rule names to its target, a no-op in every other phase (R207,
R208, R210, R211). -/
def Obligations.PhaseCommandsMove : Prop :=
  (∀ w : Packet, (w.opcode = 0x03 → decode w = .ok .modifyEnter) ∧ (w.opcode = 0x04 → decode w = .ok .modifyExit) ∧
    (w.opcode = 0x05 → decode w = .ok .renderEnter) ∧ (w.opcode = 0x06 → decode w = .ok .renderExit)) ∧
  ∀ s : State,
    exec .modifyEnter s = .next ((if s.phase = .ready then s.withPhase .modifying else s).withResult 0) ∧
      exec .modifyExit s = .next ((if s.phase = .modifying then s.withPhase .ready else s).withResult 0) ∧
      exec .renderEnter s = .next ((if s.phase = .ready then s.withPhase .rendering else s).withResult 0) ∧
      exec .renderExit s = .next ((if s.phase = .rendering then s.withPhase .ready else s).withResult 0)

/-- CLEAR, opcode 0x07, sets every byte of pixel RAM in use to 0, padding included, so that every screen pixel reads as slot 0, and changes
nothing else; it is a no-op outside Ready (R209). -/
def Obligations.ClearZeroesPixels : Prop :=
  (∀ w : Packet, w.opcode = 0x07 → decode w = .ok .clear) ∧
  (∀ s : State, s.phase = .ready → s.configLegal Config.rgx = true →
    ∃ t, exec .clear s = .next t ∧ (∀ a < s.stride Config.rgx * s.screenH.toNat, pixByte t a = 0) ∧
      (∀ a, s.stride Config.rgx * s.screenH.toNat ≤ a → pixByte t a = pixByte s a) ∧
      (∀ x y, x < s.screenW.toNat → y < s.screenH.toNat → pixGet Config.rgx t x y = 0) ∧
      t = (s.withPix t.pix).withResult 0) ∧
    ∀ s : State, s.phase ≠ .ready → exec .clear s = .next (s.withResult 0)

/-- PRESENT, opcode 0x08, appends one snapshot of the registers, the pixel bytes in use and the palette entries in use, and changes nothing
else; it is a no-op outside Ready (R213). -/
def Obligations.PresentHandsOverFrame : Prop :=
  (∀ w : Packet, w.opcode = 0x08 → decode w = .ok .present) ∧
  (∀ s : State, s.phase = .ready → s.configLegal Config.rgx = true →
    ∃ f : Snapshot, exec .present s = .next ((s.emitFrame f).withResult 0) ∧ f.screenW = s.screenW ∧
      f.screenH = s.screenH ∧ f.depth = s.depth ∧ f.stride = s.stride Config.rgx ∧ f.frameRate = s.frameRate ∧
      f.pixels.length = s.stride Config.rgx * s.screenH.toNat ∧
      (∀ a < s.stride Config.rgx * s.screenH.toNat, f.pixels[a]? = some (pixByte s a)) ∧
      f.palette.length = 2 ^ s.depth.toNat ∧ ∀ i < 2 ^ s.depth.toNat, f.palette[i]? = some (palEntry s i)) ∧
    ∀ s : State, s.phase ≠ .ready → exec .present s = .next (s.withResult 0)

/-- GET_INFO, opcode 0x09 with its selector in A, answers the value its selector names, 0 from selector 16 on, in every phase, and changes nothing; in Unconfigured
every selector but 11 and 15 gives 0 (R214). -/
def Obligations.GetInfoTable : Prop :=
  (∀ w : Packet, w.opcode = 0x09 → decode w = .ok (.getInfo w.fieldA)) ∧
  (∀ (sel : Half) (s : State), ∃ r : Nat, exec (.getInfo sel) s = .next (s.withResult (BitVec.ofNat 32 r)) ∧
    (sel = 0 → r = s.phase.code.toNat) ∧ (sel = 1 → r = s.canvasW.toNat) ∧ (sel = 2 → r = s.canvasH.toNat) ∧
    (sel = 3 → r = s.screenW.toNat) ∧ (sel = 4 → r = s.screenH.toNat) ∧ (sel = 5 → r = s.depth.toNat) ∧
    (sel = 6 → r = s.colourCount) ∧ (sel = 7 → r = s.frameRate.toNat) ∧ (sel = 8 → r = s.stride Config.rgx) ∧
    (sel = 9 → r = s.rowBytes) ∧ (sel = 10 → r = s.bytesPerPattern) ∧ (sel = 11 → r = 256) ∧
    (sel = 12 → r = s.canvasW.toNat / 8) ∧ (sel = 13 → r = s.canvasH.toNat / 8) ∧
    (sel = 14 → r = s.stride Config.rgx * s.screenH.toNat) ∧ (sel = 15 → r = 1) ∧ (16 ≤ sel.toNat → r = 0)) ∧
    ∀ (sel : Half) (s : State), s.Inv Config.rgx → s.phase = .unconfigured → sel ≠ 11 → sel ≠ 15 →
      exec (.getInfo sel) s = .next (s.withResult 0)

/-! ### Derived quantities and addresses -/

/-- `colour_count`, `bytes_per_pattern`, `row_bytes` and `stride`, configured and not (R18, R19, R20). -/
def Obligations.DerivedQuantities : Prop :=
  (∀ s : State, s.phase = .unconfigured →
    s.colourCount = 0 ∧ s.bytesPerPattern = 0 ∧ s.rowBytes = 0 ∧ s.stride Config.rgx = 0) ∧
    ∀ s : State, s.phase ≠ .unconfigured → s.configLegal Config.rgx = true →
      s.colourCount = 2 ^ s.depth.toNat ∧ s.colourCount ∈ [2, 4, 16, 256] ∧ s.bytesPerPattern = 8 * s.depth.toNat ∧
        s.rowBytes * 8 = s.screenW.toNat * s.depth.toNat ∧ s.stride Config.rgx % 4 = 0 ∧
        s.rowBytes ≤ s.stride Config.rgx ∧ s.stride Config.rgx < s.rowBytes + 4

/-- Every pixel of the screen lies in a byte of pixel RAM in use that is no padding, every pattern sample in a byte of pattern RAM
in use, and distinct pixels share a byte only in distinct fields (R42, R46, R47, R49). -/
def Obligations.AddressesStayInUse : Prop :=
  ∀ s : State, s.phase ≠ .unconfigured → s.configLegal Config.rgx = true →
    (∀ x y, x < s.screenW.toNat → y < s.screenH.toNat →
      s.pixAddr Config.rgx x y < s.pixelBytes Config.rgx ∧ ¬ s.isPadding Config.rgx (s.pixAddr Config.rgx x y)) ∧
      (∀ index c r, c < 8 → r < 8 → s.patAddr index c r < s.patternBytes) ∧
      ∀ x y x' y', x < s.screenW.toNat → y < s.screenH.toNat → x' < s.screenW.toNat → y' < s.screenH.toNat →
        s.pixAddr Config.rgx x y = s.pixAddr Config.rgx x' y' →
        fieldShift s.depth.toNat x = fieldShift s.depth.toNat x' → x = x' ∧ y = y'

/-! ### The codec -/

/-- `unpack` after `pack` gives the value masked to the field, and `pack` changes no other field (R43). -/
def Obligations.PackThenUnpack : Prop :=
  ∀ (d k v : Nat) (b : Byte), d ∈ [1, 2, 4, 8] →
    unpack d (pack d b k v) k = v % 2 ^ d ∧
      ∀ j, fieldShift d j ≠ fieldShift d k → unpack d (pack d b k v) j = unpack d b j

/-- The laws of the row and pattern forms (R101). -/
def Obligations.RowCodecLaws : Prop :=
  ∀ d ∈ [1, 2, 4, 8],
    (∀ samples : List Nat, samples.length = 8 → unpackRow d (packRow d samples) = samples.map (· % 2 ^ d)) ∧
      (∀ row : List Byte, row.length = d → packRow d (unpackRow d row) = row) ∧
      (∀ q : List Byte, q.length = 8 * d → packPattern d (unpackPattern d q) = q) ∧
      (d = 8 → ∀ row : List Byte, row.length = 8 → unpackRow d row = row.map BitVec.toNat)

/-! ### Palette -/

/-- GET_COLOUR, opcode 0x10 with its index in A, returns the Colour of entry `index mod colour_count` in Ready, Modifying and Rendering and changes nothing; in
Unconfigured it returns 0 (R134). -/
def Obligations.GetColourReturnsEntry : Prop :=
  (∀ w : Packet, w.opcode = 0x10 → decode w = .ok (.getColour w.fieldA)) ∧
  (∀ (index : Half) (s : State), s.phase ≠ .unconfigured → s.configLegal Config.rgx = true →
    exec (.getColour index) s =
      .next (s.withResult (BitVec.ofNat 32 (palEntry s (index.toNat % 2 ^ s.depth.toNat)).toNat))) ∧
    ∀ (index : Half) (s : State), s.phase = .unconfigured → exec (.getColour index) s = .next (s.withResult 0)

/-- SET_COLOUR, opcode 0x11 with its index in A and its colour in P0[23:0], writes entry `index mod colour_count` in Modifying and changes nothing else; elsewhere it is a no-op (R135). -/
def Obligations.SetColourWritesEntry : Prop :=
  (∀ w : Packet, w.opcode = 0x11 → decode w = .ok (.setColour w.fieldA (w.fieldP0.extractLsb' 0 24))) ∧
  (∀ (index : Half) (colour : Colour) (s : State), s.phase = .modifying → s.configLegal Config.rgx = true →
    ∃ t, exec (.setColour index colour) s = .next t ∧ palEntry t (index.toNat % 2 ^ s.depth.toNat) = colour ∧
      (∀ i, i ≠ index.toNat % 2 ^ s.depth.toNat → palEntry t i = palEntry s i) ∧
      t = (s.withPal t.pal).withResult 0) ∧
    ∀ (index : Half) (colour : Colour) (s : State), s.phase ≠ .modifying →
      exec (.setColour index colour) s = .next (s.withResult 0)

/-- READ_PALETTE, opcode 0x12 with its buffer in P0, stores one colour word per entry in use, blue at the lowest address and byte 3 zero, and changes no other byte of
host memory and nothing else; unconfigured or with a null buffer it is a no-op (R136). -/
def Obligations.ReadPaletteStoresWords : Prop :=
  (∀ w : Packet, w.opcode = 0x12 → decode w = .ok (.readPalette w.fieldP0)) ∧
  (∀ (out : Word) (s : State), s.phase ≠ .unconfigured → s.configLegal Config.rgx = true → out ≠ 0 →
    ∃ t, exec (.readPalette out) s = .next t ∧
      (∀ i < 2 ^ s.depth.toNat,
        hostByteAt Config.rgx t (out.toNat + 4 * i) = (palEntry s i).extractLsb' 0 8 ∧
          hostByteAt Config.rgx t (out.toNat + 4 * i + 1) = (palEntry s i).extractLsb' 8 8 ∧
          hostByteAt Config.rgx t (out.toNat + 4 * i + 2) = (palEntry s i).extractLsb' 16 8 ∧
          hostByteAt Config.rgx t (out.toNat + 4 * i + 3) = 0) ∧
      (∀ a, (∀ j < 4 * 2 ^ s.depth.toNat, hostAddr Config.rgx a ≠ hostAddr Config.rgx (out.toNat + j)) →
        hostByteAt Config.rgx t a = hostByteAt Config.rgx s a) ∧
      t = (s.withHostMem t.hostMem).withResult 0) ∧
    ∀ (out : Word) (s : State), s.phase = .unconfigured ∨ out = 0 →
      exec (.readPalette out) s = .next (s.withResult 0)

/-- WRITE_PALETTE, opcode 0x13 with its buffer in P0, loads every entry in use from its colour word, byte 3 ignored, and changes no other entry and nothing else;
outside Modifying or with a null buffer it is a no-op (R138). -/
def Obligations.WritePaletteLoadsEntries : Prop :=
  (∀ w : Packet, w.opcode = 0x13 → decode w = .ok (.writePalette w.fieldP0)) ∧
  (∀ (src : Word) (s : State), s.phase = .modifying → s.configLegal Config.rgx = true → src ≠ 0 →
    ∃ t, exec (.writePalette src) s = .next t ∧
      (∀ i < 2 ^ s.depth.toNat, palEntry t i = hostByteAt Config.rgx s (src.toNat + 4 * i + 2) ++
        hostByteAt Config.rgx s (src.toNat + 4 * i + 1) ++ hostByteAt Config.rgx s (src.toNat + 4 * i)) ∧
      (∀ i, 2 ^ s.depth.toNat ≤ i → palEntry t i = palEntry s i) ∧
      t = (s.withPal t.pal).withResult 0) ∧
    ∀ (src : Word) (s : State), s.phase ≠ .modifying ∨ src = 0 → exec (.writePalette src) s = .next (s.withResult 0)

/-- WRITE_PALETTE X then READ_PALETTE Y leaves the words at Y equal to the words at X with byte 3 of each 0 (R139). -/
def Obligations.PaletteRoundTrip : Prop :=
  ∀ (src out : Word) (s : State), s.phase = .modifying → s.configLegal Config.rgx = true → src ≠ 0 → out ≠ 0 →
    ∃ t u, exec (.writePalette src) s = .next t ∧ exec (.readPalette out) t = .next u ∧
      ∀ i < 2 ^ s.depth.toNat,
        (∀ j < 3, hostByteAt Config.rgx u (out.toNat + 4 * i + j) = hostByteAt Config.rgx s (src.toNat + 4 * i + j)) ∧
          hostByteAt Config.rgx u (out.toNat + 4 * i + 3) = 0

/-! ### Patterns -/

/-- READ_PATTERN, opcode 0x14 with its index in A, `bits` in B and its buffer in P0: at the configured depth it copies the `8 × depth` bytes of pattern `index & 255` to host memory and changes no other
byte of it and nothing else (R72, R103, R104). -/
def Obligations.ReadPatternCopiesOut : Prop :=
  (∀ w : Packet, w.opcode = 0x14 → decode w = .ok (.readPattern w.fieldA w.fieldB w.fieldP0)) ∧
  ∀ (index bits : Half) (out : Word) (s : State), s.phase ≠ .unconfigured → s.configLegal Config.rgx = true →
    out ≠ 0 → bits.toNat = s.depth.toNat →
    ∃ t, exec (.readPattern index bits out) s = .next t ∧
      (∀ i < 8 * s.depth.toNat, hostByteAt Config.rgx t (out.toNat + i) =
        patByte s (index.toNat % 256 * (8 * s.depth.toNat) + i)) ∧
      (∀ a, (∀ j < 8 * s.depth.toNat, hostAddr Config.rgx a ≠ hostAddr Config.rgx (out.toNat + j)) →
        hostByteAt Config.rgx t a = hostByteAt Config.rgx s a) ∧
      t = (s.withHostMem t.hostMem).withResult 0

/-- WRITE_PATTERN, opcode 0x15 with its index in A, `bits` in B and its buffer in P0: at the configured depth it copies `8 × depth` bytes of host memory into pattern `index & 255` and changes no other
byte of pattern RAM and nothing else (R72, R105, R106). -/
def Obligations.WritePatternCopiesIn : Prop :=
  (∀ w : Packet, w.opcode = 0x15 → decode w = .ok (.writePattern w.fieldA w.fieldB w.fieldP0)) ∧
  ∀ (index bits : Half) (src : Word) (s : State), s.phase = .modifying → s.configLegal Config.rgx = true →
    src ≠ 0 → bits.toNat = s.depth.toNat →
    ∃ t, exec (.writePattern index bits src) s = .next t ∧
      (∀ i < 8 * s.depth.toNat, patByte t (index.toNat % 256 * (8 * s.depth.toNat) + i) =
        hostByteAt Config.rgx s (src.toNat + i)) ∧
      (∀ a, (a < index.toNat % 256 * (8 * s.depth.toNat) ∨
          index.toNat % 256 * (8 * s.depth.toNat) + 8 * s.depth.toNat ≤ a) → patByte t a = patByte s a) ∧
      t = (s.withPat t.pat).withResult 0

/-- Round trip at the configured depth: WRITE_PATTERN from X, then READ_PATTERN to Y, leaves the bytes at Y equal to those at X
(R107). -/
def Obligations.PatternRoundTrip : Prop :=
  ∀ (index bits : Half) (src out : Word) (s : State), s.phase = .modifying → s.configLegal Config.rgx = true →
    src ≠ 0 → out ≠ 0 → bits.toNat = s.depth.toNat →
    ∃ t u, exec (.writePattern index bits src) s = .next t ∧ exec (.readPattern index bits out) t = .next u ∧
      ∀ i < 8 * s.depth.toNat,
        hostByteAt Config.rgx u (out.toNat + i) = hostByteAt Config.rgx s (src.toNat + i)

/-! ### Pixels -/

/-- GET_PIXEL, opcode 0x18 with x in B and y in C, returns in Rendering the sample of pixel (x, y), below `colour_count`, and 0 outside the screen; in any other phase
it returns 0. It changes nothing (R130, R131 (d)). -/
def Obligations.GetPixelReturnsSample : Prop :=
  (∀ w : Packet, w.opcode = 0x18 → decode w = .ok (.getPixel w.fieldB.toInt w.fieldC.toInt)) ∧
  (∀ (x y : Nat) (s : State), s.phase = .rendering → s.configLegal Config.rgx = true → x < s.screenW.toNat →
    y < s.screenH.toNat →
    ∃ v < 2 ^ s.depth.toNat, exec (.getPixel x y) s = .next (s.withResult (BitVec.ofNat 32 v)) ∧
      v = (pixByte s (y * s.stride Config.rgx + x * s.depth.toNat / 8)).toNat /
        2 ^ (8 - s.depth.toNat * (x % (8 / s.depth.toNat) + 1)) % 2 ^ s.depth.toNat) ∧
    ∀ (x y : Int) (s : State), (s.phase ≠ .rendering ∨ x < 0 ∨ (s.screenW.toNat : Int) ≤ x ∨ y < 0 ∨
        (s.screenH.toNat : Int) ≤ y) →
      exec (.getPixel x y) s = .next (s.withResult 0)

/-- SET_PIXEL, opcode 0x19 with x in B, y in C and the index in A, writes in Modifying `index mod colour_count` to pixel (x, y), keeps every other pixel of the screen and every other
byte of pixel RAM, and changes nothing else; outside Modifying or outside the screen it is a no-op (R132). -/
def Obligations.SetPixelWritesOneField : Prop :=
  (∀ w : Packet, w.opcode = 0x19 → decode w = .ok (.setPixel w.fieldB.toInt w.fieldC.toInt w.fieldA)) ∧
  (∀ (x y : Nat) (index : Half) (s : State), s.phase = .modifying → s.configLegal Config.rgx = true →
    x < s.screenW.toNat → y < s.screenH.toNat →
    ∃ t, exec (.setPixel x y index) s = .next t ∧ pixGet Config.rgx t x y = index.toNat % 2 ^ s.depth.toNat ∧
      (∀ x' y', x' < s.screenW.toNat → y' < s.screenH.toNat → (x' ≠ x ∨ y' ≠ y) →
        pixGet Config.rgx t x' y' = pixGet Config.rgx s x' y') ∧
      (∀ a, a ≠ y * s.stride Config.rgx + x * s.depth.toNat / 8 → pixByte t a = pixByte s a) ∧
      t = (s.withPix t.pix).withResult 0) ∧
    ∀ (x y : Int) (index : Half) (s : State), (s.phase ≠ .modifying ∨ x < 0 ∨ (s.screenW.toNat : Int) ≤ x ∨ y < 0 ∨
        (s.screenH.toNat : Int) ≤ y) →
      exec (.setPixel x y index) s = .next (s.withResult 0)

/-- Set then get: SET_PIXEL in Modifying, MODIFY_EXIT, RENDER_ENTER with no CLEAR between, GET_PIXEL returns `c mod colour_count`;
the same GET_PIXEL issued while Modifying returns 0 and changes nothing (R133 (e)). -/
def Obligations.SetThenGetPixel : Prop :=
  ∀ (x y : Nat) (c : Half) (s : State), s.phase = .modifying → s.configLegal Config.rgx = true → x < s.screenW.toNat →
    y < s.screenH.toNat →
    ∃ t u v, exec (.setPixel x y c) s = .next t ∧ exec (.getPixel x y) t = .next (t.withResult 0) ∧
      exec .modifyExit t = .next u ∧ exec .renderEnter u = .next v ∧
      exec (.getPixel x y) v = .next (v.withResult (BitVec.ofNat 32 (c.toNat % 2 ^ s.depth.toNat)))

/-- FRAME_BEGIN (CLEAR, then RENDER_ENTER) leads to Rendering with every screen pixel reading as 0 (R82, R209, R263). -/
def Obligations.FrameBeginShowsZero : Prop :=
  ∀ s : State, s.phase = .ready → s.configLegal Config.rgx = true →
    ∃ t u, exec .clear s = .next t ∧ exec .renderEnter t = .next u ∧ u.phase = .rendering ∧
      ∀ x y : Int, exec (.getPixel x y) u = .next (u.withResult 0)

/-! ### Blits -/

/-- Normalising the origin of a wrapping axis: its value in the three cases, and that it changes no destination (R161). -/
def Obligations.NormalizeKeepsResidue : Prop :=
  ∀ (coord : Int) (dim : Nat), 0 < dim →
    (0 ≤ coord → normalize coord dim = coord % dim) ∧
      (coord < 0 → coord % dim ≠ 0 → normalize coord dim = coord % dim) ∧
      (coord < 0 → coord % dim = 0 → normalize coord dim = dim) ∧
      ∀ k : Int, (normalize coord dim + k) % dim = (coord + k) % dim

/-- DRAW_SPRITE with its loops, `continue`s and `break`s writes what the loop-free form writes: the asymmetry and the
normalisation have no effect on the final state (R160, R167, R168). For all states and parameters. -/
def Obligations.SpriteLoopsEqualLoopFree : Prop :=
  ∀ (p : Params) (s : State) (a : SpriteArgs), spriteLoops p s a = putAll p s (spriteWrites p s a) s.pix

/-- DRAW_TILES with its loops, `continue`s and `break`s writes what the loop-free form writes (R180, R187). -/
def Obligations.TileLoopsEqualLoopFree : Prop :=
  ∀ (p : Params) (s : State) (a : TileArgs), gridLoops p s a = putAll p s (gridWrites p s a) s.pix

/-- DRAW_SPRITE, opcode 0x20 with x in B, y in C, the pattern in A, the table in P0 and `hflip`, `vflip`, `hwrap`, `vwrap` in FLAGS
bits 0 to 3 (R72, R73), pixel by pixel: each sample with a destination on both axes and a non-zero value sets its pixel to the remapped,
masked value; distinct samples have distinct destinations; every other pixel, every other byte of pixel RAM (padding included)
and everything else keep their values (R167). -/
def Obligations.DrawSpritePixels : Prop :=
  (∀ w : Packet, w.opcode = 0x20 → decode w = .ok (.drawSprite w.fieldB.toInt w.fieldC.toInt w.fieldA w.fieldP0
    (w.flags.getLsbD 0) (w.flags.getLsbD 1) (w.flags.getLsbD 2) (w.flags.getLsbD 3))) ∧
  ∀ (x y : Int) (pattern : Half) (palette : Word) (hflip vflip hwrap vwrap : Bool) (s : State),
    s.phase = .rendering → s.configLegal Config.rgx = true →
    ∃ t, exec (.drawSprite x y pattern palette hflip vflip hwrap vwrap) s = .next t ∧
      (∀ sx sy a b v, sx < 8 → sy < 8 → dest x sx hwrap s.canvasW.toNat s.screenW.toNat = some a →
        dest y sy vwrap s.canvasH.toNat s.screenH.toNat = some b →
        v = patSample s pattern.toNat (if hflip then 7 - sx else sx) (if vflip then 7 - sy else sy) → v ≠ 0 →
        pixGet Config.rgx t a b =
          (if palette ≠ 0 then (hostByteAt Config.rgx s (palette.toNat + v)).toNat else v) % 2 ^ s.depth.toNat) ∧
      (∀ sx sx' a, sx < 8 → sx' < 8 → dest x sx hwrap s.canvasW.toNat s.screenW.toNat = some a →
        dest x sx' hwrap s.canvasW.toNat s.screenW.toNat = some a → sx = sx') ∧
      (∀ sy sy' b, sy < 8 → sy' < 8 → dest y sy vwrap s.canvasH.toNat s.screenH.toNat = some b →
        dest y sy' vwrap s.canvasH.toNat s.screenH.toNat = some b → sy = sy') ∧
      (∀ a b, a < s.screenW.toNat → b < s.screenH.toNat →
        (∀ sx sy, sx < 8 → sy < 8 → dest x sx hwrap s.canvasW.toNat s.screenW.toNat = some a →
          dest y sy vwrap s.canvasH.toNat s.screenH.toNat = some b →
          patSample s pattern.toNat (if hflip then 7 - sx else sx) (if vflip then 7 - sy else sy) = 0) →
        pixGet Config.rgx t a b = pixGet Config.rgx s a b) ∧
      (∀ adr, (∀ sx sy a b, sx < 8 → sy < 8 → dest x sx hwrap s.canvasW.toNat s.screenW.toNat = some a →
          dest y sy vwrap s.canvasH.toNat s.screenH.toNat = some b → adr ≠ s.pixAddr Config.rgx a b) →
        pixByte t adr = pixByte s adr) ∧
      t = (s.withPix t.pix).withResult 0

/-- DRAW_TILES, opcode 0x21 with x in B, y in C, the tile array in P0, the table array in P1 and `hwrap`, `vwrap`, `transparent` in
FLAGS bits 2 to 4 (R72, R73), pixel by pixel: each grid pixel with a destination on both axes that is not skipped as transparent sets its pixel to
its sample through the tile's own table, masked; distinct grid pixels have distinct destinations; every other pixel, every other
byte of pixel RAM and everything else keep their values (R187). -/
def Obligations.DrawTilesPixels : Prop :=
  (∀ w : Packet, w.opcode = 0x21 → decode w = .ok (.drawTiles w.fieldB.toInt w.fieldC.toInt w.fieldP0 w.fieldP1
    (w.flags.getLsbD 2) (w.flags.getLsbD 3) (w.flags.getLsbD 4))) ∧
  ∀ (x y : Int) (tiles palettes : Word) (hwrap vwrap transparent : Bool) (s : State),
    s.phase = .rendering → s.configLegal Config.rgx = true → tiles ≠ 0 → palettes ≠ 0 →
    ∃ t, exec (.drawTiles x y tiles palettes hwrap vwrap transparent) s = .next t ∧
      (∀ col row a b tile v, col < s.canvasW.toNat → row < s.canvasH.toNat →
        dest x col hwrap s.canvasW.toNat s.screenW.toNat = some a →
        dest y row vwrap s.canvasH.toNat s.screenH.toNat = some b →
        tile = tileAt Config.rgx s tiles.toNat (col / 8) (row / 8) →
        v = patSample s tile.pattern (if tile.hflip then 7 - col % 8 else col % 8)
          (if tile.vflip then 7 - row % 8 else row % 8) →
        ¬ (v = 0 ∧ transparent = true) →
        pixGet Config.rgx t a b =
          (hostByteAt Config.rgx s (palettes.toNat + tile.palette * 2 ^ s.depth.toNat + v)).toNat % 2 ^ s.depth.toNat) ∧
      (∀ col col' a, col < s.canvasW.toNat → col' < s.canvasW.toNat →
        dest x col hwrap s.canvasW.toNat s.screenW.toNat = some a →
        dest x col' hwrap s.canvasW.toNat s.screenW.toNat = some a → col = col') ∧
      (∀ row row' b, row < s.canvasH.toNat → row' < s.canvasH.toNat →
        dest y row vwrap s.canvasH.toNat s.screenH.toNat = some b →
        dest y row' vwrap s.canvasH.toNat s.screenH.toNat = some b → row = row') ∧
      (∀ a b, a < s.screenW.toNat → b < s.screenH.toNat →
        (∀ col row tile, col < s.canvasW.toNat → row < s.canvasH.toNat →
          dest x col hwrap s.canvasW.toNat s.screenW.toNat = some a →
          dest y row vwrap s.canvasH.toNat s.screenH.toNat = some b →
          tile = tileAt Config.rgx s tiles.toNat (col / 8) (row / 8) →
          transparent = true ∧ patSample s tile.pattern (if tile.hflip then 7 - col % 8 else col % 8)
            (if tile.vflip then 7 - row % 8 else row % 8) = 0) →
        pixGet Config.rgx t a b = pixGet Config.rgx s a b) ∧
      (∀ adr, (∀ col row a b, col < s.canvasW.toNat → row < s.canvasH.toNat →
          dest x col hwrap s.canvasW.toNat s.screenW.toNat = some a →
          dest y row vwrap s.canvasH.toNat s.screenH.toNat = some b → adr ≠ s.pixAddr Config.rgx a b) →
        pixByte t adr = pixByte s adr) ∧
      t = (s.withPix t.pix).withResult 0

/-- A sample of 0 is transparent at every depth, with and without a table: its pixel is unchanged, whatever the table holds for 0;
so a sprite whose pattern is all zero changes nothing (R164). -/
def Obligations.ZeroSamplesAreTransparent : Prop :=
  ∀ (x y : Int) (pattern : Half) (palette : Word) (hflip vflip hwrap vwrap : Bool) (s : State),
    s.phase = .rendering → s.configLegal Config.rgx = true →
    (∃ t, exec (.drawSprite x y pattern palette hflip vflip hwrap vwrap) s = .next t ∧
      ∀ sx sy a b, sx < 8 → sy < 8 → dest x sx hwrap s.canvasW.toNat s.screenW.toNat = some a →
        dest y sy vwrap s.canvasH.toNat s.screenH.toNat = some b →
        patSample s pattern.toNat (if hflip then 7 - sx else sx) (if vflip then 7 - sy else sy) = 0 →
        pixGet Config.rgx t a b = pixGet Config.rgx s a b) ∧
      ((∀ c r, c < 8 → r < 8 → patSample s pattern.toNat c r = 0) →
        exec (.drawSprite x y pattern palette hflip vflip hwrap vwrap) s = .next (s.withResult 0))

/-- Both blitters are silent no-ops outside Rendering, and DRAW_TILES without a tile array or without a table array; nothing
changes and what host memory holds makes no difference (R166, R186). -/
def Obligations.BlitGuards : Prop :=
  ∀ (x y : Int) (s : State),
    (∀ (pattern : Half) (palette : Word) (hflip vflip hwrap vwrap : Bool), s.phase ≠ .rendering →
      exec (.drawSprite x y pattern palette hflip vflip hwrap vwrap) s = .next (s.withResult 0)) ∧
      ∀ (tiles palettes : Word) (hwrap vwrap transparent : Bool), s.phase ≠ .rendering ∨ tiles = 0 ∨ palettes = 0 →
        exec (.drawTiles x y tiles palettes hwrap vwrap transparent) s = .next (s.withResult 0)

/-- Drawing with both flips is drawing the pattern mirrored on both axes: over any pattern RAM that holds the mirrored pattern, the
sprite without flips leaves the same pixel RAM (R163, R170). -/
def Obligations.DoubleFlipMirrorsPattern : Prop :=
  ∀ (x y : Int) (pattern : Half) (palette : Word) (hwrap vwrap : Bool) (s t : State) (m : Memory 8),
    s.phase = .rendering → s.configLegal Config.rgx = true →
    (∀ c r, c < 8 → r < 8 → patSample (s.withPat m) pattern.toNat c r = patSample s pattern.toNat (7 - c) (7 - r)) →
    exec (.drawSprite x y pattern palette true true hwrap vwrap) s = .next t →
    exec (.drawSprite x y pattern palette false false hwrap vwrap) (s.withPat m) = .next (t.withPat m)

/-- Wrap at x = −1 reaches column W − 1, where the screen shows it, and clip at x = `screen_w` − 1 keeps one column (R169 (b),
(d)). -/
def Obligations.WrapAndClipAtTheEdge : Prop :=
  ∀ s : State, s.phase ≠ .unconfigured → s.configLegal Config.rgx = true →
    dest (-1) 0 true s.canvasW.toNat s.screenW.toNat =
      (if s.canvasW.toNat - 1 < s.screenW.toNat then some (s.canvasW.toNat - 1) else none) ∧
      (∀ k, 1 ≤ k → k ≤ 7 → dest (-1) k true s.canvasW.toNat s.screenW.toNat = some (k - 1)) ∧
      dest (s.screenW.toNat - 1) 0 false s.canvasW.toNat s.screenW.toNat = some (s.screenW.toNat - 1) ∧
      ∀ k, 1 ≤ k → dest (s.screenW.toNat - 1) k false s.canvasW.toNat s.screenW.toNat = none

/-- With both wraps every screen pixel is the destination of exactly one grid pixel, and with `transparent = 0` the whole screen is
overwritten (R188 (a)). -/
def Obligations.WrappedTilesCoverTheScreen : Prop :=
  ∀ (x y : Int) (tiles palettes : Word) (s t : State), s.phase = .rendering → s.configLegal Config.rgx = true →
    tiles ≠ 0 → palettes ≠ 0 → exec (.drawTiles x y tiles palettes true true false) s = .next t →
    ∀ a b, a < s.screenW.toNat → b < s.screenH.toNat →
      ∃ col row, col = ((a - x) % s.canvasW.toNat).toNat ∧ row = ((b - y) % s.canvasH.toNat).toNat ∧
        (∀ col' row', col' < s.canvasW.toNat → row' < s.canvasH.toNat →
          ((dest x col' true s.canvasW.toNat s.screenW.toNat = some a ∧
            dest y row' true s.canvasH.toNat s.screenH.toNat = some b) ↔ (col' = col ∧ row' = row))) ∧
        ∃ tile v, tile = tileAt Config.rgx s tiles.toNat (col / 8) (row / 8) ∧
          v = patSample s tile.pattern (if tile.hflip then 7 - col % 8 else col % 8)
            (if tile.vflip then 7 - row % 8 else row % 8) ∧
          pixGet Config.rgx t a b =
            (hostByteAt Config.rgx s (palettes.toNat + tile.palette * 2 ^ s.depth.toNat + v)).toNat %
              2 ^ s.depth.toNat
end

