-- ==== Sys2Proof/Laws/Blit.lean ====
section
/-!
SUPPORT. What one blit loop does: leaving it with `break` skips only indices that would have been skipped one by one (spec
42_draw_sprite.md R168), and normalising the origin changes no destination (R161).
-/

namespace Sys2Proof.Machine

/-- The decision of the loop form agrees with `Dest` (R162). -/
theorem axisStep_put_iff (o : Int) (wrap : Bool) (canvas screen k d : Nat) :
    axisStep o wrap canvas screen k = .put d ↔ dest o k wrap canvas screen = some d := by
  unfold axisStep dest
  cases wrap
  · simp only [Bool.false_eq_true, if_false]
    by_cases h1 : o + (k : Int) < 0
    · simp [h1]
    · by_cases h2 : (screen : Int) ≤ o + k
      · simp [h1, h2]
      · simp only [h1, h2, if_false]
        rw [if_pos (by omega)]
        simp
  · simp only [if_true]
    by_cases h : (screen : Int) ≤ (o + k) % canvas
    · rw [if_pos h, if_neg (by omega)]; simp
    · rw [if_neg h, if_pos (by omega)]; simp

/-- After a `break` every later index has no destination. -/
theorem dest_none_of_leave {o : Int} {wrap : Bool} {canvas screen k j : Nat}
    (h : axisStep o wrap canvas screen k = .leave) (hj : k ≤ j) : dest o j wrap canvas screen = none := by
  unfold axisStep at h
  unfold dest
  cases wrap
  · simp only [Bool.false_eq_true, if_false] at h ⊢
    split at h
    · simp at h
    · split at h
      · rw [if_neg (by omega)]
      · simp at h
  · simp only [if_true] at h
    split at h <;> simp at h

/-- A blit loop over rising indices is the fold over those that have a destination (R168). -/
theorem axisLoop_eq_foldl {α : Type} (o : Int) (wrap : Bool) (canvas screen : Nat) (body : Nat → Nat → α → α) (ks : List Nat)
    (hks : ks.Pairwise (· ≤ ·)) (m : α) :
    axisLoop (axisStep o wrap canvas screen) body ks m =
      ks.foldl (fun m k => match dest o k wrap canvas screen with
        | some d => body k d m
        | none => m) m := by
  induction ks generalizing m with
  | nil => rfl
  | cons k ks ih =>
    have hk := List.pairwise_cons.1 hks
    simp only [axisLoop, List.foldl_cons]
    cases hstep : axisStep o wrap canvas screen k with
    | put d => simp only [(axisStep_put_iff ..).1 hstep, ih hk.2]
    | skip =>
      have : dest o k wrap canvas screen = none := by
        rcases h : dest o k wrap canvas screen with _ | d
        · rfl
        · rw [(axisStep_put_iff ..).2 h] at hstep; cases hstep
      simp only [this, ih hk.2]
    | leave =>
      have hnone : ∀ j ∈ k :: ks, dest o j wrap canvas screen = none := by
        intro j hj
        refine dest_none_of_leave hstep ?_
        rcases List.mem_cons.1 hj with rfl | hj
        · exact Nat.le_refl _
        · exact hk.1 j hj
      simp only [hnone k List.mem_cons_self]
      have : ∀ l : List Nat, (∀ j ∈ l, dest o j wrap canvas screen = none) →
          l.foldl (fun m k => match dest o k wrap canvas screen with
            | some d => body k d m
            | none => m) m = m := by
        intro l hl
        induction l with
        | nil => rfl
        | cons j l ihl =>
          simp only [List.foldl_cons, hl j List.mem_cons_self]
          exact ihl fun i hi => hl i (List.mem_cons_of_mem _ hi)
      exact (this ks fun j hj => hnone j (List.mem_cons_of_mem _ hj)).symm

/-- What every drawn index keeps, a blit loop keeps. -/
theorem axisLoop_keeps {α : Type} {choose : Nat → AxisStep} {body : Nat → Nat → α → α} {P : α → Prop} {ks : List Nat} {m : α}
    (hm : P m) (hbody : ∀ k ∈ ks, ∀ d m, choose k = .put d → P m → P (body k d m)) :
    P (axisLoop choose body ks m) := by
  induction ks generalizing m with
  | nil => exact hm
  | cons k ks ih =>
    have hks : ∀ j ∈ ks, ∀ d m, choose j = .put d → P m → P (body j d m) := fun j hj =>
      hbody j (List.mem_cons_of_mem _ hj)
    simp only [axisLoop]
    cases h : choose k with
    | skip => exact ih hm hks
    | leave => exact hm
    | put d => exact ih (hbody k List.mem_cons_self d m h hm) hks

/-- A destination on an axis of a positive canvas lies on the screen (R162). -/
theorem dest_lt_screen {o : Int} {k : Nat} {wrap : Bool} {canvas screen d : Nat} (hc : 0 < canvas)
    (h : dest o k wrap canvas screen = some d) : d < screen := by
  unfold dest at h
  have hmod := Int.emod_nonneg (o + k) (b := (canvas : Int)) (by omega)
  split at h
  · split at h
    · injection h with h; omega
    · cases h
  · split at h
    · injection h with h; omega
    · cases h

end Sys2Proof.Machine
end

