-- ==== Sys2Proof/Laws/Codec.lean ====
section
/-!
SUPPORT. The pixel codec bit by bit (spec 20_memory.md R42, R43): which bits `unpack` reads and which bits `pack` replaces.
-/

namespace Sys2Proof.Machine

/-- The legal depths, as cases (R5). -/
theorem depth_cases {d : Nat} (h : d ∈ [1, 2, 4, 8]) : d = 1 ∨ d = 2 ∨ d = 4 ∨ d = 8 := by simpa using h

/-- A field stands inside its byte. -/
theorem fieldShift_le {d : Nat} (hd : d ∈ [1, 2, 4, 8]) (k : Nat) : fieldShift d k + d ≤ 8 := by
  rcases depth_cases hd with rfl | rfl | rfl | rfl <;> simp only [fieldShift, ppb] <;> omega

/-- Two fields of a byte are the same or disjoint. -/
theorem fieldShift_disjoint {d : Nat} (hd : d ∈ [1, 2, 4, 8]) {j k : Nat} (h : fieldShift d j ≠ fieldShift d k) :
    fieldShift d j + d ≤ fieldShift d k ∨ fieldShift d k + d ≤ fieldShift d j := by
  rcases depth_cases hd with rfl | rfl | rfl | rfl <;> simp only [fieldShift, ppb] at * <;> omega

/-- `unpack` reads bits `shift .. shift + d − 1`. -/
theorem testBit_unpack (d : Nat) (b : Byte) (k i : Nat) :
    (unpack d b k).testBit i = (decide (i < d) && b.getLsbD (fieldShift d k + i)) := by
  rw [unpack, fmask, Nat.and_two_pow_sub_one_eq_mod, Nat.testBit_mod_two_pow, Nat.testBit_shiftRight, BitVec.testBit_toNat]

/-- `pack` replaces bits `shift .. shift + d − 1` by the low bits of the value. -/
theorem getLsbD_pack {d : Nat} (b : Byte) (k v i : Nat) :
    (pack d b k v).getLsbD i =
      (decide (i < 8) && if fieldShift d k ≤ i ∧ i < fieldShift d k + d then v.testBit (i - fieldShift d k) else b.getLsbD i) := by
  by_cases hi : i < 8
  · simp only [pack, fmask, BitVec.getLsbD_or, BitVec.getLsbD_and, BitVec.getLsbD_not, BitVec.getLsbD_ofNat, hi, decide_true,
      Bool.true_and, Nat.testBit_shiftLeft, Nat.testBit_and, Nat.testBit_two_pow_sub_one]
    by_cases h1 : fieldShift d k ≤ i
    · by_cases h2 : i < fieldShift d k + d
      · have : i - fieldShift d k < d := by omega
        simp [h1, h2, this]
      · have : ¬ i - fieldShift d k < d := by omega
        simp [h2, this]
    · simp [h1]
  · rw [BitVec.getLsbD_of_ge _ _ (Nat.not_lt.1 hi)]; simp [hi]

/-- A sample is below `2 ^ d`. -/
theorem unpack_lt (d : Nat) (b : Byte) (k : Nat) : unpack d b k < 2 ^ d := by
  rw [unpack, fmask, Nat.and_two_pow_sub_one_eq_mod]
  exact Nat.mod_lt _ (Nat.two_pow_pos _)

end Sys2Proof.Machine
end

