-- ==== Sys2Proof/Laws/Decode.lean ====
section
/-!
SUPPORT. The fields of an assembled packet, one lemma per field, and of the assembled operands (spec 30_encoding.md R71 to R74).
-/

namespace Sys2Proof

section Fields

variable (o f : Byte) (a b c : Half) (p0 p1 : Word)

/-- Every bit of an assembled packet, by the field it lies in (R71). -/
theorem packet_getLsbD (i : Nat) :
    (packet o f a b c p0 p1).getLsbD i =
      if i < 8 then o.getLsbD i else if i < 16 then f.getLsbD (i - 8)
      else if i < 32 then a.getLsbD (i - 16) else if i < 48 then b.getLsbD (i - 32)
      else if i < 64 then c.getLsbD (i - 48) else if i < 96 then p0.getLsbD (i - 64)
      else p1.getLsbD (i - 96) := by
  show BitVec.getLsbD (w := 32 + 32 + 16 + 16 + 16 + 8 + 8) (p1 ++ p0 ++ c ++ b ++ a ++ f ++ o) i = _
  simp only [BitVec.getLsbD_append, Nat.sub_sub]
  split_ifs <;> first | rfl | omega

@[simp] theorem packet_opcode : (packet o f a b c p0 p1).opcode = o := by
  apply BitVec.eq_of_getLsbD_eq
  intro i hi
  simp only [Packet.opcode, BitVec.getLsbD_extractLsb', packet_getLsbD]
  simp [hi]

@[simp] theorem packet_flags : (packet o f a b c p0 p1).flags = f := by
  apply BitVec.eq_of_getLsbD_eq
  intro i hi
  simp only [Packet.flags, BitVec.getLsbD_extractLsb', packet_getLsbD]
  simp only [hi, decide_true, Bool.true_and]
  split_ifs <;> first | omega | (congr 1; omega)

@[simp] theorem packet_fieldA : (packet o f a b c p0 p1).fieldA = a := by
  apply BitVec.eq_of_getLsbD_eq
  intro i hi
  simp only [Packet.fieldA, BitVec.getLsbD_extractLsb', packet_getLsbD]
  simp only [hi, decide_true, Bool.true_and]
  split_ifs <;> first | omega | (congr 1; omega)

@[simp] theorem packet_fieldB : (packet o f a b c p0 p1).fieldB = b := by
  apply BitVec.eq_of_getLsbD_eq
  intro i hi
  simp only [Packet.fieldB, BitVec.getLsbD_extractLsb', packet_getLsbD]
  simp only [hi, decide_true, Bool.true_and]
  split_ifs <;> first | omega | (congr 1; omega)

@[simp] theorem packet_fieldC : (packet o f a b c p0 p1).fieldC = c := by
  apply BitVec.eq_of_getLsbD_eq
  intro i hi
  simp only [Packet.fieldC, BitVec.getLsbD_extractLsb', packet_getLsbD]
  simp only [hi, decide_true, Bool.true_and]
  split_ifs <;> first | omega | (congr 1; omega)

@[simp] theorem packet_fieldP0 : (packet o f a b c p0 p1).fieldP0 = p0 := by
  apply BitVec.eq_of_getLsbD_eq
  intro i hi
  simp only [Packet.fieldP0, BitVec.getLsbD_extractLsb', packet_getLsbD]
  simp only [hi, decide_true, Bool.true_and]
  split_ifs <;> first | omega | (congr 1; omega)

@[simp] theorem packet_fieldP1 : (packet o f a b c p0 p1).fieldP1 = p1 := by
  apply BitVec.eq_of_getLsbD_eq
  intro i hi
  simp only [Packet.fieldP1, BitVec.getLsbD_extractLsb', packet_getLsbD]
  simp only [hi, decide_true, Bool.true_and]
  split_ifs <;> first | omega | (congr 1; omega)

end Fields

@[simp] theorem lowHalf_halves (a b : Half) : lowHalf (halves a b) = a := by
  apply BitVec.eq_of_getLsbD_eq
  intro i hi
  show (BitVec.extractLsb' (n := 16 + 16) 0 16 (b ++ a)).getLsbD i = _
  rw [BitVec.getLsbD_extractLsb', BitVec.getLsbD_append]
  simp [hi]

@[simp] theorem highHalf_halves (a b : Half) : highHalf (halves a b) = b := by
  apply BitVec.eq_of_getLsbD_eq
  intro i hi
  show (BitVec.extractLsb' (n := 16 + 16) 16 16 (b ++ a)).getLsbD i = _
  rw [BitVec.getLsbD_extractLsb', BitVec.getLsbD_append]
  simp [hi]

section Flags

variable (hf vf hw vw tr : Bool)

/-! The flags of an assembled `FLAGS` field (R73). -/

@[simp] theorem flagBits_hflip : (flagBits hf vf hw vw tr)[0] = hf := by
  cases hf <;> cases vf <;> cases hw <;> cases vw <;> cases tr <;> decide
@[simp] theorem flagBits_vflip : (flagBits hf vf hw vw tr)[1] = vf := by
  cases hf <;> cases vf <;> cases hw <;> cases vw <;> cases tr <;> decide
@[simp] theorem flagBits_hwrap : (flagBits hf vf hw vw tr)[2] = hw := by
  cases hf <;> cases vf <;> cases hw <;> cases vw <;> cases tr <;> decide
@[simp] theorem flagBits_vwrap : (flagBits hf vf hw vw tr)[3] = vw := by
  cases hf <;> cases vf <;> cases hw <;> cases vw <;> cases tr <;> decide
@[simp] theorem flagBits_transparent : (flagBits hf vf hw vw tr)[4] = tr := by
  cases hf <;> cases vf <;> cases hw <;> cases vw <;> cases tr <;> decide

end Flags

/-- A signed operand in range survives its field (R74). -/
theorem signed16_coordBits {v : Int} (h : fitsCoord v = true) : signed16 (coordBits v) = v := by
  simp only [fitsCoord, Bool.and_eq_true, decide_eq_true_eq] at h
  have h1 : (-32768 : Int) ≤ v := h.1
  have h2 : v < 32768 := h.2
  simp only [signed16, coordBits, BitVec.toInt_ofInt]
  exact Int.bmod_eq_of_le (by norm_num; omega) (by norm_num; omega)

/-- A packet is the number its 16 bytes make (R70). -/
theorem littleEndian_bytes (w : Packet) : BitVec.ofNat 128 (littleEndian w.bytes) = w := by
  apply BitVec.eq_of_toNat_eq
  simp only [Packet.bytes, List.range_succ, List.range_zero, List.nil_append, List.map_cons, List.map_nil,
    List.cons_append, littleEndian, BitVec.extractLsb'_toNat, BitVec.toNat_ofNat, Nat.shiftRight_eq_div_pow]
  have := w.isLt
  norm_num
  omega

end Sys2Proof
end

