-- ==== Sys2Proof/Laws/State.lean ====
section
/-!
SUPPORT. One lemma per field per update of State, and what each update leaves of the derived quantities and of the address
spaces; all true by rfl.
-/

namespace Sys2Proof.Machine

open Config (Params)

variable (s : State)

/-! ### withPhase -/

@[simp] theorem State.withPhase_phase (ph : Phase) : (s.withPhase ph).phase = ph := rfl
@[simp] theorem State.withPhase_canvasW (ph : Phase) : (s.withPhase ph).canvasW = s.canvasW := rfl
@[simp] theorem State.withPhase_canvasH (ph : Phase) : (s.withPhase ph).canvasH = s.canvasH := rfl
@[simp] theorem State.withPhase_screenW (ph : Phase) : (s.withPhase ph).screenW = s.screenW := rfl
@[simp] theorem State.withPhase_screenH (ph : Phase) : (s.withPhase ph).screenH = s.screenH := rfl
@[simp] theorem State.withPhase_depth (ph : Phase) : (s.withPhase ph).depth = s.depth := rfl
@[simp] theorem State.withPhase_frameRate (ph : Phase) : (s.withPhase ph).frameRate = s.frameRate := rfl
@[simp] theorem State.withPhase_pal (ph : Phase) : (s.withPhase ph).pal = s.pal := rfl
@[simp] theorem State.withPhase_pat (ph : Phase) : (s.withPhase ph).pat = s.pat := rfl
@[simp] theorem State.withPhase_pix (ph : Phase) : (s.withPhase ph).pix = s.pix := rfl
@[simp] theorem State.withPhase_ramEpoch (ph : Phase) : (s.withPhase ph).ramEpoch = s.ramEpoch := rfl
@[simp] theorem State.withPhase_output (ph : Phase) : (s.withPhase ph).output = s.output := rfl
@[simp] theorem State.withPhase_presenter (ph : Phase) : (s.withPhase ph).presenter = s.presenter := rfl
@[simp] theorem State.withPhase_hostMem (ph : Phase) : (s.withPhase ph).hostMem = s.hostMem := rfl
@[simp] theorem State.withPhase_inputs (ph : Phase) : (s.withPhase ph).inputs = s.inputs := rfl
@[simp] theorem State.withPhase_result (ph : Phase) : (s.withPhase ph).result = s.result := rfl

@[simp] theorem palEntry_withPhase (ph : Phase) (i : Nat) : palEntry (s.withPhase ph) i = palEntry s i := rfl
@[simp] theorem patByte_withPhase (ph : Phase) (i : Nat) : patByte (s.withPhase ph) i = patByte s i := rfl
@[simp] theorem pixByte_withPhase (ph : Phase) (i : Nat) : pixByte (s.withPhase ph) i = pixByte s i := rfl
@[simp] theorem hostByteAt_withPhase (ph : Phase) (p : Params) (i : Nat) :
    hostByteAt p (s.withPhase ph) i = hostByteAt p s i := rfl

/-! ### withPal -/

@[simp] theorem State.withPal_phase (m : Memory 24) : (s.withPal m).phase = s.phase := rfl
@[simp] theorem State.withPal_canvasW (m : Memory 24) : (s.withPal m).canvasW = s.canvasW := rfl
@[simp] theorem State.withPal_canvasH (m : Memory 24) : (s.withPal m).canvasH = s.canvasH := rfl
@[simp] theorem State.withPal_screenW (m : Memory 24) : (s.withPal m).screenW = s.screenW := rfl
@[simp] theorem State.withPal_screenH (m : Memory 24) : (s.withPal m).screenH = s.screenH := rfl
@[simp] theorem State.withPal_depth (m : Memory 24) : (s.withPal m).depth = s.depth := rfl
@[simp] theorem State.withPal_frameRate (m : Memory 24) : (s.withPal m).frameRate = s.frameRate := rfl
@[simp] theorem State.withPal_pal (m : Memory 24) : (s.withPal m).pal = m := rfl
@[simp] theorem State.withPal_pat (m : Memory 24) : (s.withPal m).pat = s.pat := rfl
@[simp] theorem State.withPal_pix (m : Memory 24) : (s.withPal m).pix = s.pix := rfl
@[simp] theorem State.withPal_ramEpoch (m : Memory 24) : (s.withPal m).ramEpoch = s.ramEpoch := rfl
@[simp] theorem State.withPal_output (m : Memory 24) : (s.withPal m).output = s.output := rfl
@[simp] theorem State.withPal_presenter (m : Memory 24) : (s.withPal m).presenter = s.presenter := rfl
@[simp] theorem State.withPal_hostMem (m : Memory 24) : (s.withPal m).hostMem = s.hostMem := rfl
@[simp] theorem State.withPal_inputs (m : Memory 24) : (s.withPal m).inputs = s.inputs := rfl
@[simp] theorem State.withPal_result (m : Memory 24) : (s.withPal m).result = s.result := rfl

@[simp] theorem State.withPal_colourCount (m : Memory 24) : (s.withPal m).colourCount = s.colourCount := rfl
@[simp] theorem State.withPal_bytesPerPattern (m : Memory 24) : (s.withPal m).bytesPerPattern = s.bytesPerPattern := rfl
@[simp] theorem State.withPal_rowBytes (m : Memory 24) : (s.withPal m).rowBytes = s.rowBytes := rfl
@[simp] theorem State.withPal_patternBytes (m : Memory 24) : (s.withPal m).patternBytes = s.patternBytes := rfl
@[simp] theorem State.withPal_tilesW (m : Memory 24) : (s.withPal m).tilesW = s.tilesW := rfl
@[simp] theorem State.withPal_tilesH (m : Memory 24) : (s.withPal m).tilesH = s.tilesH := rfl
@[simp] theorem State.withPal_stride (m : Memory 24) (p : Params) : (s.withPal m).stride p = s.stride p := rfl
@[simp] theorem State.withPal_pixelBytes (m : Memory 24) (p : Params) : (s.withPal m).pixelBytes p = s.pixelBytes p := rfl
@[simp] theorem State.withPal_configLegal (m : Memory 24) (p : Params) :
    (s.withPal m).configLegal p = s.configLegal p := rfl
@[simp] theorem State.withPal_maskColour (m : Memory 24) (v : Nat) : (s.withPal m).maskColour v = s.maskColour v := rfl
@[simp] theorem State.withPal_patBase (m : Memory 24) (i : Nat) : (s.withPal m).patBase i = s.patBase i := rfl
@[simp] theorem State.withPal_pixAddr (m : Memory 24) (p : Params) (x y : Nat) :
    (s.withPal m).pixAddr p x y = s.pixAddr p x y := rfl

@[simp] theorem patByte_withPal (m : Memory 24) (i : Nat) : patByte (s.withPal m) i = patByte s i := rfl
@[simp] theorem pixByte_withPal (m : Memory 24) (i : Nat) : pixByte (s.withPal m) i = pixByte s i := rfl
@[simp] theorem hostByteAt_withPal (m : Memory 24) (p : Params) (i : Nat) :
    hostByteAt p (s.withPal m) i = hostByteAt p s i := rfl

/-! ### withPat -/

@[simp] theorem State.withPat_phase (m : Memory 8) : (s.withPat m).phase = s.phase := rfl
@[simp] theorem State.withPat_canvasW (m : Memory 8) : (s.withPat m).canvasW = s.canvasW := rfl
@[simp] theorem State.withPat_canvasH (m : Memory 8) : (s.withPat m).canvasH = s.canvasH := rfl
@[simp] theorem State.withPat_screenW (m : Memory 8) : (s.withPat m).screenW = s.screenW := rfl
@[simp] theorem State.withPat_screenH (m : Memory 8) : (s.withPat m).screenH = s.screenH := rfl
@[simp] theorem State.withPat_depth (m : Memory 8) : (s.withPat m).depth = s.depth := rfl
@[simp] theorem State.withPat_frameRate (m : Memory 8) : (s.withPat m).frameRate = s.frameRate := rfl
@[simp] theorem State.withPat_pal (m : Memory 8) : (s.withPat m).pal = s.pal := rfl
@[simp] theorem State.withPat_pat (m : Memory 8) : (s.withPat m).pat = m := rfl
@[simp] theorem State.withPat_pix (m : Memory 8) : (s.withPat m).pix = s.pix := rfl
@[simp] theorem State.withPat_ramEpoch (m : Memory 8) : (s.withPat m).ramEpoch = s.ramEpoch := rfl
@[simp] theorem State.withPat_output (m : Memory 8) : (s.withPat m).output = s.output := rfl
@[simp] theorem State.withPat_presenter (m : Memory 8) : (s.withPat m).presenter = s.presenter := rfl
@[simp] theorem State.withPat_hostMem (m : Memory 8) : (s.withPat m).hostMem = s.hostMem := rfl
@[simp] theorem State.withPat_inputs (m : Memory 8) : (s.withPat m).inputs = s.inputs := rfl
@[simp] theorem State.withPat_result (m : Memory 8) : (s.withPat m).result = s.result := rfl

@[simp] theorem State.withPat_colourCount (m : Memory 8) : (s.withPat m).colourCount = s.colourCount := rfl
@[simp] theorem State.withPat_bytesPerPattern (m : Memory 8) : (s.withPat m).bytesPerPattern = s.bytesPerPattern := rfl
@[simp] theorem State.withPat_rowBytes (m : Memory 8) : (s.withPat m).rowBytes = s.rowBytes := rfl
@[simp] theorem State.withPat_patternBytes (m : Memory 8) : (s.withPat m).patternBytes = s.patternBytes := rfl
@[simp] theorem State.withPat_tilesW (m : Memory 8) : (s.withPat m).tilesW = s.tilesW := rfl
@[simp] theorem State.withPat_tilesH (m : Memory 8) : (s.withPat m).tilesH = s.tilesH := rfl
@[simp] theorem State.withPat_stride (m : Memory 8) (p : Params) : (s.withPat m).stride p = s.stride p := rfl
@[simp] theorem State.withPat_pixelBytes (m : Memory 8) (p : Params) : (s.withPat m).pixelBytes p = s.pixelBytes p := rfl
@[simp] theorem State.withPat_configLegal (m : Memory 8) (p : Params) :
    (s.withPat m).configLegal p = s.configLegal p := rfl
@[simp] theorem State.withPat_maskColour (m : Memory 8) (v : Nat) : (s.withPat m).maskColour v = s.maskColour v := rfl
@[simp] theorem State.withPat_patBase (m : Memory 8) (i : Nat) : (s.withPat m).patBase i = s.patBase i := rfl
@[simp] theorem State.withPat_pixAddr (m : Memory 8) (p : Params) (x y : Nat) :
    (s.withPat m).pixAddr p x y = s.pixAddr p x y := rfl

@[simp] theorem palEntry_withPat (m : Memory 8) (i : Nat) : palEntry (s.withPat m) i = palEntry s i := rfl
@[simp] theorem pixByte_withPat (m : Memory 8) (i : Nat) : pixByte (s.withPat m) i = pixByte s i := rfl
@[simp] theorem hostByteAt_withPat (m : Memory 8) (p : Params) (i : Nat) :
    hostByteAt p (s.withPat m) i = hostByteAt p s i := rfl

/-! ### withPix -/

@[simp] theorem State.withPix_phase (m : Memory 8) : (s.withPix m).phase = s.phase := rfl
@[simp] theorem State.withPix_canvasW (m : Memory 8) : (s.withPix m).canvasW = s.canvasW := rfl
@[simp] theorem State.withPix_canvasH (m : Memory 8) : (s.withPix m).canvasH = s.canvasH := rfl
@[simp] theorem State.withPix_screenW (m : Memory 8) : (s.withPix m).screenW = s.screenW := rfl
@[simp] theorem State.withPix_screenH (m : Memory 8) : (s.withPix m).screenH = s.screenH := rfl
@[simp] theorem State.withPix_depth (m : Memory 8) : (s.withPix m).depth = s.depth := rfl
@[simp] theorem State.withPix_frameRate (m : Memory 8) : (s.withPix m).frameRate = s.frameRate := rfl
@[simp] theorem State.withPix_pal (m : Memory 8) : (s.withPix m).pal = s.pal := rfl
@[simp] theorem State.withPix_pat (m : Memory 8) : (s.withPix m).pat = s.pat := rfl
@[simp] theorem State.withPix_pix (m : Memory 8) : (s.withPix m).pix = m := rfl
@[simp] theorem State.withPix_ramEpoch (m : Memory 8) : (s.withPix m).ramEpoch = s.ramEpoch := rfl
@[simp] theorem State.withPix_output (m : Memory 8) : (s.withPix m).output = s.output := rfl
@[simp] theorem State.withPix_presenter (m : Memory 8) : (s.withPix m).presenter = s.presenter := rfl
@[simp] theorem State.withPix_hostMem (m : Memory 8) : (s.withPix m).hostMem = s.hostMem := rfl
@[simp] theorem State.withPix_inputs (m : Memory 8) : (s.withPix m).inputs = s.inputs := rfl
@[simp] theorem State.withPix_result (m : Memory 8) : (s.withPix m).result = s.result := rfl

@[simp] theorem State.withPix_colourCount (m : Memory 8) : (s.withPix m).colourCount = s.colourCount := rfl
@[simp] theorem State.withPix_bytesPerPattern (m : Memory 8) : (s.withPix m).bytesPerPattern = s.bytesPerPattern := rfl
@[simp] theorem State.withPix_rowBytes (m : Memory 8) : (s.withPix m).rowBytes = s.rowBytes := rfl
@[simp] theorem State.withPix_patternBytes (m : Memory 8) : (s.withPix m).patternBytes = s.patternBytes := rfl
@[simp] theorem State.withPix_tilesW (m : Memory 8) : (s.withPix m).tilesW = s.tilesW := rfl
@[simp] theorem State.withPix_tilesH (m : Memory 8) : (s.withPix m).tilesH = s.tilesH := rfl
@[simp] theorem State.withPix_stride (m : Memory 8) (p : Params) : (s.withPix m).stride p = s.stride p := rfl
@[simp] theorem State.withPix_pixelBytes (m : Memory 8) (p : Params) : (s.withPix m).pixelBytes p = s.pixelBytes p := rfl
@[simp] theorem State.withPix_configLegal (m : Memory 8) (p : Params) :
    (s.withPix m).configLegal p = s.configLegal p := rfl
@[simp] theorem State.withPix_maskColour (m : Memory 8) (v : Nat) : (s.withPix m).maskColour v = s.maskColour v := rfl
@[simp] theorem State.withPix_patBase (m : Memory 8) (i : Nat) : (s.withPix m).patBase i = s.patBase i := rfl
@[simp] theorem State.withPix_pixAddr (m : Memory 8) (p : Params) (x y : Nat) :
    (s.withPix m).pixAddr p x y = s.pixAddr p x y := rfl

@[simp] theorem palEntry_withPix (m : Memory 8) (i : Nat) : palEntry (s.withPix m) i = palEntry s i := rfl
@[simp] theorem patByte_withPix (m : Memory 8) (i : Nat) : patByte (s.withPix m) i = patByte s i := rfl
@[simp] theorem hostByteAt_withPix (m : Memory 8) (p : Params) (i : Nat) :
    hostByteAt p (s.withPix m) i = hostByteAt p s i := rfl

/-! ### withHostMem -/

@[simp] theorem State.withHostMem_phase (m : Memory 8) : (s.withHostMem m).phase = s.phase := rfl
@[simp] theorem State.withHostMem_canvasW (m : Memory 8) : (s.withHostMem m).canvasW = s.canvasW := rfl
@[simp] theorem State.withHostMem_canvasH (m : Memory 8) : (s.withHostMem m).canvasH = s.canvasH := rfl
@[simp] theorem State.withHostMem_screenW (m : Memory 8) : (s.withHostMem m).screenW = s.screenW := rfl
@[simp] theorem State.withHostMem_screenH (m : Memory 8) : (s.withHostMem m).screenH = s.screenH := rfl
@[simp] theorem State.withHostMem_depth (m : Memory 8) : (s.withHostMem m).depth = s.depth := rfl
@[simp] theorem State.withHostMem_frameRate (m : Memory 8) : (s.withHostMem m).frameRate = s.frameRate := rfl
@[simp] theorem State.withHostMem_pal (m : Memory 8) : (s.withHostMem m).pal = s.pal := rfl
@[simp] theorem State.withHostMem_pat (m : Memory 8) : (s.withHostMem m).pat = s.pat := rfl
@[simp] theorem State.withHostMem_pix (m : Memory 8) : (s.withHostMem m).pix = s.pix := rfl
@[simp] theorem State.withHostMem_ramEpoch (m : Memory 8) : (s.withHostMem m).ramEpoch = s.ramEpoch := rfl
@[simp] theorem State.withHostMem_output (m : Memory 8) : (s.withHostMem m).output = s.output := rfl
@[simp] theorem State.withHostMem_presenter (m : Memory 8) : (s.withHostMem m).presenter = s.presenter := rfl
@[simp] theorem State.withHostMem_hostMem (m : Memory 8) : (s.withHostMem m).hostMem = m := rfl
@[simp] theorem State.withHostMem_inputs (m : Memory 8) : (s.withHostMem m).inputs = s.inputs := rfl
@[simp] theorem State.withHostMem_result (m : Memory 8) : (s.withHostMem m).result = s.result := rfl

@[simp] theorem State.withHostMem_colourCount (m : Memory 8) : (s.withHostMem m).colourCount = s.colourCount := rfl
@[simp] theorem State.withHostMem_bytesPerPattern (m : Memory 8) : (s.withHostMem m).bytesPerPattern = s.bytesPerPattern := rfl
@[simp] theorem State.withHostMem_rowBytes (m : Memory 8) : (s.withHostMem m).rowBytes = s.rowBytes := rfl
@[simp] theorem State.withHostMem_patternBytes (m : Memory 8) : (s.withHostMem m).patternBytes = s.patternBytes := rfl
@[simp] theorem State.withHostMem_tilesW (m : Memory 8) : (s.withHostMem m).tilesW = s.tilesW := rfl
@[simp] theorem State.withHostMem_tilesH (m : Memory 8) : (s.withHostMem m).tilesH = s.tilesH := rfl
@[simp] theorem State.withHostMem_stride (m : Memory 8) (p : Params) : (s.withHostMem m).stride p = s.stride p := rfl
@[simp] theorem State.withHostMem_pixelBytes (m : Memory 8) (p : Params) : (s.withHostMem m).pixelBytes p = s.pixelBytes p := rfl
@[simp] theorem State.withHostMem_configLegal (m : Memory 8) (p : Params) :
    (s.withHostMem m).configLegal p = s.configLegal p := rfl
@[simp] theorem State.withHostMem_maskColour (m : Memory 8) (v : Nat) : (s.withHostMem m).maskColour v = s.maskColour v := rfl
@[simp] theorem State.withHostMem_patBase (m : Memory 8) (i : Nat) : (s.withHostMem m).patBase i = s.patBase i := rfl
@[simp] theorem State.withHostMem_pixAddr (m : Memory 8) (p : Params) (x y : Nat) :
    (s.withHostMem m).pixAddr p x y = s.pixAddr p x y := rfl

@[simp] theorem palEntry_withHostMem (m : Memory 8) (i : Nat) : palEntry (s.withHostMem m) i = palEntry s i := rfl
@[simp] theorem patByte_withHostMem (m : Memory 8) (i : Nat) : patByte (s.withHostMem m) i = patByte s i := rfl
@[simp] theorem pixByte_withHostMem (m : Memory 8) (i : Nat) : pixByte (s.withHostMem m) i = pixByte s i := rfl

/-! ### withInputs -/

@[simp] theorem State.withInputs_phase (l : List HostEvent) : (s.withInputs l).phase = s.phase := rfl
@[simp] theorem State.withInputs_canvasW (l : List HostEvent) : (s.withInputs l).canvasW = s.canvasW := rfl
@[simp] theorem State.withInputs_canvasH (l : List HostEvent) : (s.withInputs l).canvasH = s.canvasH := rfl
@[simp] theorem State.withInputs_screenW (l : List HostEvent) : (s.withInputs l).screenW = s.screenW := rfl
@[simp] theorem State.withInputs_screenH (l : List HostEvent) : (s.withInputs l).screenH = s.screenH := rfl
@[simp] theorem State.withInputs_depth (l : List HostEvent) : (s.withInputs l).depth = s.depth := rfl
@[simp] theorem State.withInputs_frameRate (l : List HostEvent) : (s.withInputs l).frameRate = s.frameRate := rfl
@[simp] theorem State.withInputs_pal (l : List HostEvent) : (s.withInputs l).pal = s.pal := rfl
@[simp] theorem State.withInputs_pat (l : List HostEvent) : (s.withInputs l).pat = s.pat := rfl
@[simp] theorem State.withInputs_pix (l : List HostEvent) : (s.withInputs l).pix = s.pix := rfl
@[simp] theorem State.withInputs_ramEpoch (l : List HostEvent) : (s.withInputs l).ramEpoch = s.ramEpoch := rfl
@[simp] theorem State.withInputs_output (l : List HostEvent) : (s.withInputs l).output = s.output := rfl
@[simp] theorem State.withInputs_presenter (l : List HostEvent) : (s.withInputs l).presenter = s.presenter := rfl
@[simp] theorem State.withInputs_hostMem (l : List HostEvent) : (s.withInputs l).hostMem = s.hostMem := rfl
@[simp] theorem State.withInputs_inputs (l : List HostEvent) : (s.withInputs l).inputs = l := rfl
@[simp] theorem State.withInputs_result (l : List HostEvent) : (s.withInputs l).result = s.result := rfl

@[simp] theorem State.withInputs_colourCount (l : List HostEvent) : (s.withInputs l).colourCount = s.colourCount := rfl
@[simp] theorem State.withInputs_bytesPerPattern (l : List HostEvent) : (s.withInputs l).bytesPerPattern = s.bytesPerPattern := rfl
@[simp] theorem State.withInputs_rowBytes (l : List HostEvent) : (s.withInputs l).rowBytes = s.rowBytes := rfl
@[simp] theorem State.withInputs_patternBytes (l : List HostEvent) : (s.withInputs l).patternBytes = s.patternBytes := rfl
@[simp] theorem State.withInputs_tilesW (l : List HostEvent) : (s.withInputs l).tilesW = s.tilesW := rfl
@[simp] theorem State.withInputs_tilesH (l : List HostEvent) : (s.withInputs l).tilesH = s.tilesH := rfl
@[simp] theorem State.withInputs_stride (l : List HostEvent) (p : Params) : (s.withInputs l).stride p = s.stride p := rfl
@[simp] theorem State.withInputs_pixelBytes (l : List HostEvent) (p : Params) : (s.withInputs l).pixelBytes p = s.pixelBytes p := rfl
@[simp] theorem State.withInputs_configLegal (l : List HostEvent) (p : Params) :
    (s.withInputs l).configLegal p = s.configLegal p := rfl
@[simp] theorem State.withInputs_maskColour (l : List HostEvent) (v : Nat) : (s.withInputs l).maskColour v = s.maskColour v := rfl
@[simp] theorem State.withInputs_patBase (l : List HostEvent) (i : Nat) : (s.withInputs l).patBase i = s.patBase i := rfl
@[simp] theorem State.withInputs_pixAddr (l : List HostEvent) (p : Params) (x y : Nat) :
    (s.withInputs l).pixAddr p x y = s.pixAddr p x y := rfl

@[simp] theorem palEntry_withInputs (l : List HostEvent) (i : Nat) : palEntry (s.withInputs l) i = palEntry s i := rfl
@[simp] theorem patByte_withInputs (l : List HostEvent) (i : Nat) : patByte (s.withInputs l) i = patByte s i := rfl
@[simp] theorem pixByte_withInputs (l : List HostEvent) (i : Nat) : pixByte (s.withInputs l) i = pixByte s i := rfl
@[simp] theorem hostByteAt_withInputs (l : List HostEvent) (p : Params) (i : Nat) :
    hostByteAt p (s.withInputs l) i = hostByteAt p s i := rfl

/-! ### withResult -/

@[simp] theorem State.withResult_phase (r : Word) : (s.withResult r).phase = s.phase := rfl
@[simp] theorem State.withResult_canvasW (r : Word) : (s.withResult r).canvasW = s.canvasW := rfl
@[simp] theorem State.withResult_canvasH (r : Word) : (s.withResult r).canvasH = s.canvasH := rfl
@[simp] theorem State.withResult_screenW (r : Word) : (s.withResult r).screenW = s.screenW := rfl
@[simp] theorem State.withResult_screenH (r : Word) : (s.withResult r).screenH = s.screenH := rfl
@[simp] theorem State.withResult_depth (r : Word) : (s.withResult r).depth = s.depth := rfl
@[simp] theorem State.withResult_frameRate (r : Word) : (s.withResult r).frameRate = s.frameRate := rfl
@[simp] theorem State.withResult_pal (r : Word) : (s.withResult r).pal = s.pal := rfl
@[simp] theorem State.withResult_pat (r : Word) : (s.withResult r).pat = s.pat := rfl
@[simp] theorem State.withResult_pix (r : Word) : (s.withResult r).pix = s.pix := rfl
@[simp] theorem State.withResult_ramEpoch (r : Word) : (s.withResult r).ramEpoch = s.ramEpoch := rfl
@[simp] theorem State.withResult_output (r : Word) : (s.withResult r).output = s.output := rfl
@[simp] theorem State.withResult_presenter (r : Word) : (s.withResult r).presenter = s.presenter := rfl
@[simp] theorem State.withResult_hostMem (r : Word) : (s.withResult r).hostMem = s.hostMem := rfl
@[simp] theorem State.withResult_inputs (r : Word) : (s.withResult r).inputs = s.inputs := rfl
@[simp] theorem State.withResult_result (r : Word) : (s.withResult r).result = some r := rfl

@[simp] theorem State.withResult_colourCount (r : Word) : (s.withResult r).colourCount = s.colourCount := rfl
@[simp] theorem State.withResult_bytesPerPattern (r : Word) : (s.withResult r).bytesPerPattern = s.bytesPerPattern := rfl
@[simp] theorem State.withResult_rowBytes (r : Word) : (s.withResult r).rowBytes = s.rowBytes := rfl
@[simp] theorem State.withResult_patternBytes (r : Word) : (s.withResult r).patternBytes = s.patternBytes := rfl
@[simp] theorem State.withResult_tilesW (r : Word) : (s.withResult r).tilesW = s.tilesW := rfl
@[simp] theorem State.withResult_tilesH (r : Word) : (s.withResult r).tilesH = s.tilesH := rfl
@[simp] theorem State.withResult_stride (r : Word) (p : Params) : (s.withResult r).stride p = s.stride p := rfl
@[simp] theorem State.withResult_pixelBytes (r : Word) (p : Params) : (s.withResult r).pixelBytes p = s.pixelBytes p := rfl
@[simp] theorem State.withResult_configLegal (r : Word) (p : Params) :
    (s.withResult r).configLegal p = s.configLegal p := rfl
@[simp] theorem State.withResult_maskColour (r : Word) (v : Nat) : (s.withResult r).maskColour v = s.maskColour v := rfl
@[simp] theorem State.withResult_patBase (r : Word) (i : Nat) : (s.withResult r).patBase i = s.patBase i := rfl
@[simp] theorem State.withResult_pixAddr (r : Word) (p : Params) (x y : Nat) :
    (s.withResult r).pixAddr p x y = s.pixAddr p x y := rfl

@[simp] theorem palEntry_withResult (r : Word) (i : Nat) : palEntry (s.withResult r) i = palEntry s i := rfl
@[simp] theorem patByte_withResult (r : Word) (i : Nat) : patByte (s.withResult r) i = patByte s i := rfl
@[simp] theorem pixByte_withResult (r : Word) (i : Nat) : pixByte (s.withResult r) i = pixByte s i := rfl
@[simp] theorem hostByteAt_withResult (r : Word) (p : Params) (i : Nat) :
    hostByteAt p (s.withResult r) i = hostByteAt p s i := rfl

/-! ### withConfig -/

@[simp] theorem State.withConfig_phase (cw ch sw sh d fr : Nat) : (s.withConfig cw ch sw sh d fr).phase = s.phase := rfl
@[simp] theorem State.withConfig_canvasW (cw ch sw sh d fr : Nat) : (s.withConfig cw ch sw sh d fr).canvasW = BitVec.ofNat 11 cw := rfl
@[simp] theorem State.withConfig_canvasH (cw ch sw sh d fr : Nat) : (s.withConfig cw ch sw sh d fr).canvasH = BitVec.ofNat 11 ch := rfl
@[simp] theorem State.withConfig_screenW (cw ch sw sh d fr : Nat) : (s.withConfig cw ch sw sh d fr).screenW = BitVec.ofNat 11 sw := rfl
@[simp] theorem State.withConfig_screenH (cw ch sw sh d fr : Nat) : (s.withConfig cw ch sw sh d fr).screenH = BitVec.ofNat 11 sh := rfl
@[simp] theorem State.withConfig_depth (cw ch sw sh d fr : Nat) : (s.withConfig cw ch sw sh d fr).depth = BitVec.ofNat 4 d := rfl
@[simp] theorem State.withConfig_frameRate (cw ch sw sh d fr : Nat) : (s.withConfig cw ch sw sh d fr).frameRate = BitVec.ofNat 6 fr := rfl
@[simp] theorem State.withConfig_pal (cw ch sw sh d fr : Nat) : (s.withConfig cw ch sw sh d fr).pal = s.pal := rfl
@[simp] theorem State.withConfig_pat (cw ch sw sh d fr : Nat) : (s.withConfig cw ch sw sh d fr).pat = s.pat := rfl
@[simp] theorem State.withConfig_pix (cw ch sw sh d fr : Nat) : (s.withConfig cw ch sw sh d fr).pix = s.pix := rfl
@[simp] theorem State.withConfig_ramEpoch (cw ch sw sh d fr : Nat) : (s.withConfig cw ch sw sh d fr).ramEpoch = s.ramEpoch := rfl
@[simp] theorem State.withConfig_output (cw ch sw sh d fr : Nat) : (s.withConfig cw ch sw sh d fr).output = s.output := rfl
@[simp] theorem State.withConfig_presenter (cw ch sw sh d fr : Nat) : (s.withConfig cw ch sw sh d fr).presenter = s.presenter := rfl
@[simp] theorem State.withConfig_hostMem (cw ch sw sh d fr : Nat) : (s.withConfig cw ch sw sh d fr).hostMem = s.hostMem := rfl
@[simp] theorem State.withConfig_inputs (cw ch sw sh d fr : Nat) : (s.withConfig cw ch sw sh d fr).inputs = s.inputs := rfl
@[simp] theorem State.withConfig_result (cw ch sw sh d fr : Nat) : (s.withConfig cw ch sw sh d fr).result = s.result := rfl

@[simp] theorem palEntry_withConfig (cw ch sw sh d fr : Nat) (i : Nat) : palEntry (s.withConfig cw ch sw sh d fr) i = palEntry s i := rfl
@[simp] theorem patByte_withConfig (cw ch sw sh d fr : Nat) (i : Nat) : patByte (s.withConfig cw ch sw sh d fr) i = patByte s i := rfl
@[simp] theorem pixByte_withConfig (cw ch sw sh d fr : Nat) (i : Nat) : pixByte (s.withConfig cw ch sw sh d fr) i = pixByte s i := rfl
@[simp] theorem hostByteAt_withConfig (cw ch sw sh d fr : Nat) (p : Params) (i : Nat) :
    hostByteAt p (s.withConfig cw ch sw sh d fr) i = hostByteAt p s i := rfl

/-! ### emit -/

@[simp] theorem State.emit_phase (es : List OutputEvent) : (s.emit es).phase = s.phase := rfl
@[simp] theorem State.emit_canvasW (es : List OutputEvent) : (s.emit es).canvasW = s.canvasW := rfl
@[simp] theorem State.emit_canvasH (es : List OutputEvent) : (s.emit es).canvasH = s.canvasH := rfl
@[simp] theorem State.emit_screenW (es : List OutputEvent) : (s.emit es).screenW = s.screenW := rfl
@[simp] theorem State.emit_screenH (es : List OutputEvent) : (s.emit es).screenH = s.screenH := rfl
@[simp] theorem State.emit_depth (es : List OutputEvent) : (s.emit es).depth = s.depth := rfl
@[simp] theorem State.emit_frameRate (es : List OutputEvent) : (s.emit es).frameRate = s.frameRate := rfl
@[simp] theorem State.emit_pal (es : List OutputEvent) : (s.emit es).pal = s.pal := rfl
@[simp] theorem State.emit_pat (es : List OutputEvent) : (s.emit es).pat = s.pat := rfl
@[simp] theorem State.emit_pix (es : List OutputEvent) : (s.emit es).pix = s.pix := rfl
@[simp] theorem State.emit_ramEpoch (es : List OutputEvent) : (s.emit es).ramEpoch = s.ramEpoch := rfl
@[simp] theorem State.emit_output (es : List OutputEvent) : (s.emit es).output = s.output ++ es := rfl
@[simp] theorem State.emit_presenter (es : List OutputEvent) : (s.emit es).presenter = s.presenter := rfl
@[simp] theorem State.emit_hostMem (es : List OutputEvent) : (s.emit es).hostMem = s.hostMem := rfl
@[simp] theorem State.emit_inputs (es : List OutputEvent) : (s.emit es).inputs = s.inputs := rfl
@[simp] theorem State.emit_result (es : List OutputEvent) : (s.emit es).result = s.result := rfl

@[simp] theorem State.emit_colourCount (es : List OutputEvent) : (s.emit es).colourCount = s.colourCount := rfl
@[simp] theorem State.emit_bytesPerPattern (es : List OutputEvent) : (s.emit es).bytesPerPattern = s.bytesPerPattern := rfl
@[simp] theorem State.emit_rowBytes (es : List OutputEvent) : (s.emit es).rowBytes = s.rowBytes := rfl
@[simp] theorem State.emit_patternBytes (es : List OutputEvent) : (s.emit es).patternBytes = s.patternBytes := rfl
@[simp] theorem State.emit_tilesW (es : List OutputEvent) : (s.emit es).tilesW = s.tilesW := rfl
@[simp] theorem State.emit_tilesH (es : List OutputEvent) : (s.emit es).tilesH = s.tilesH := rfl
@[simp] theorem State.emit_stride (es : List OutputEvent) (p : Params) : (s.emit es).stride p = s.stride p := rfl
@[simp] theorem State.emit_pixelBytes (es : List OutputEvent) (p : Params) : (s.emit es).pixelBytes p = s.pixelBytes p := rfl
@[simp] theorem State.emit_configLegal (es : List OutputEvent) (p : Params) :
    (s.emit es).configLegal p = s.configLegal p := rfl
@[simp] theorem State.emit_maskColour (es : List OutputEvent) (v : Nat) : (s.emit es).maskColour v = s.maskColour v := rfl
@[simp] theorem State.emit_patBase (es : List OutputEvent) (i : Nat) : (s.emit es).patBase i = s.patBase i := rfl
@[simp] theorem State.emit_pixAddr (es : List OutputEvent) (p : Params) (x y : Nat) :
    (s.emit es).pixAddr p x y = s.pixAddr p x y := rfl

@[simp] theorem palEntry_emit (es : List OutputEvent) (i : Nat) : palEntry (s.emit es) i = palEntry s i := rfl
@[simp] theorem patByte_emit (es : List OutputEvent) (i : Nat) : patByte (s.emit es) i = patByte s i := rfl
@[simp] theorem pixByte_emit (es : List OutputEvent) (i : Nat) : pixByte (s.emit es) i = pixByte s i := rfl
@[simp] theorem hostByteAt_emit (es : List OutputEvent) (p : Params) (i : Nat) :
    hostByteAt p (s.emit es) i = hostByteAt p s i := rfl

/-! ### emitFrame -/

@[simp] theorem State.emitFrame_phase (f : Snapshot) : (s.emitFrame f).phase = s.phase := rfl
@[simp] theorem State.emitFrame_canvasW (f : Snapshot) : (s.emitFrame f).canvasW = s.canvasW := rfl
@[simp] theorem State.emitFrame_canvasH (f : Snapshot) : (s.emitFrame f).canvasH = s.canvasH := rfl
@[simp] theorem State.emitFrame_screenW (f : Snapshot) : (s.emitFrame f).screenW = s.screenW := rfl
@[simp] theorem State.emitFrame_screenH (f : Snapshot) : (s.emitFrame f).screenH = s.screenH := rfl
@[simp] theorem State.emitFrame_depth (f : Snapshot) : (s.emitFrame f).depth = s.depth := rfl
@[simp] theorem State.emitFrame_frameRate (f : Snapshot) : (s.emitFrame f).frameRate = s.frameRate := rfl
@[simp] theorem State.emitFrame_pal (f : Snapshot) : (s.emitFrame f).pal = s.pal := rfl
@[simp] theorem State.emitFrame_pat (f : Snapshot) : (s.emitFrame f).pat = s.pat := rfl
@[simp] theorem State.emitFrame_pix (f : Snapshot) : (s.emitFrame f).pix = s.pix := rfl
@[simp] theorem State.emitFrame_ramEpoch (f : Snapshot) : (s.emitFrame f).ramEpoch = s.ramEpoch := rfl
@[simp] theorem State.emitFrame_output (f : Snapshot) : (s.emitFrame f).output = s.output := rfl
@[simp] theorem State.emitFrame_presenter (f : Snapshot) : (s.emitFrame f).presenter = s.presenter ++ [f] := rfl
@[simp] theorem State.emitFrame_hostMem (f : Snapshot) : (s.emitFrame f).hostMem = s.hostMem := rfl
@[simp] theorem State.emitFrame_inputs (f : Snapshot) : (s.emitFrame f).inputs = s.inputs := rfl
@[simp] theorem State.emitFrame_result (f : Snapshot) : (s.emitFrame f).result = s.result := rfl

@[simp] theorem State.emitFrame_colourCount (f : Snapshot) : (s.emitFrame f).colourCount = s.colourCount := rfl
@[simp] theorem State.emitFrame_bytesPerPattern (f : Snapshot) : (s.emitFrame f).bytesPerPattern = s.bytesPerPattern := rfl
@[simp] theorem State.emitFrame_rowBytes (f : Snapshot) : (s.emitFrame f).rowBytes = s.rowBytes := rfl
@[simp] theorem State.emitFrame_patternBytes (f : Snapshot) : (s.emitFrame f).patternBytes = s.patternBytes := rfl
@[simp] theorem State.emitFrame_tilesW (f : Snapshot) : (s.emitFrame f).tilesW = s.tilesW := rfl
@[simp] theorem State.emitFrame_tilesH (f : Snapshot) : (s.emitFrame f).tilesH = s.tilesH := rfl
@[simp] theorem State.emitFrame_stride (f : Snapshot) (p : Params) : (s.emitFrame f).stride p = s.stride p := rfl
@[simp] theorem State.emitFrame_pixelBytes (f : Snapshot) (p : Params) : (s.emitFrame f).pixelBytes p = s.pixelBytes p := rfl
@[simp] theorem State.emitFrame_configLegal (f : Snapshot) (p : Params) :
    (s.emitFrame f).configLegal p = s.configLegal p := rfl
@[simp] theorem State.emitFrame_maskColour (f : Snapshot) (v : Nat) : (s.emitFrame f).maskColour v = s.maskColour v := rfl
@[simp] theorem State.emitFrame_patBase (f : Snapshot) (i : Nat) : (s.emitFrame f).patBase i = s.patBase i := rfl
@[simp] theorem State.emitFrame_pixAddr (f : Snapshot) (p : Params) (x y : Nat) :
    (s.emitFrame f).pixAddr p x y = s.pixAddr p x y := rfl

@[simp] theorem palEntry_emitFrame (f : Snapshot) (i : Nat) : palEntry (s.emitFrame f) i = palEntry s i := rfl
@[simp] theorem patByte_emitFrame (f : Snapshot) (i : Nat) : patByte (s.emitFrame f) i = patByte s i := rfl
@[simp] theorem pixByte_emitFrame (f : Snapshot) (i : Nat) : pixByte (s.emitFrame f) i = pixByte s i := rfl
@[simp] theorem hostByteAt_emitFrame (f : Snapshot) (p : Params) (i : Nat) :
    hostByteAt p (s.emitFrame f) i = hostByteAt p s i := rfl

/-! ### forgetRams -/

@[simp] theorem State.forgetRams_phase : (s.forgetRams).phase = s.phase := rfl
@[simp] theorem State.forgetRams_canvasW : (s.forgetRams).canvasW = s.canvasW := rfl
@[simp] theorem State.forgetRams_canvasH : (s.forgetRams).canvasH = s.canvasH := rfl
@[simp] theorem State.forgetRams_screenW : (s.forgetRams).screenW = s.screenW := rfl
@[simp] theorem State.forgetRams_screenH : (s.forgetRams).screenH = s.screenH := rfl
@[simp] theorem State.forgetRams_depth : (s.forgetRams).depth = s.depth := rfl
@[simp] theorem State.forgetRams_frameRate : (s.forgetRams).frameRate = s.frameRate := rfl
@[simp] theorem State.forgetRams_pal : (s.forgetRams).pal = [] := rfl
@[simp] theorem State.forgetRams_pat : (s.forgetRams).pat = [] := rfl
@[simp] theorem State.forgetRams_pix : (s.forgetRams).pix = [] := rfl
@[simp] theorem State.forgetRams_ramEpoch : (s.forgetRams).ramEpoch = s.ramEpoch + 1 := rfl
@[simp] theorem State.forgetRams_output : (s.forgetRams).output = s.output := rfl
@[simp] theorem State.forgetRams_presenter : (s.forgetRams).presenter = s.presenter := rfl
@[simp] theorem State.forgetRams_hostMem : (s.forgetRams).hostMem = s.hostMem := rfl
@[simp] theorem State.forgetRams_inputs : (s.forgetRams).inputs = s.inputs := rfl
@[simp] theorem State.forgetRams_result : (s.forgetRams).result = s.result := rfl

@[simp] theorem State.forgetRams_colourCount : (s.forgetRams).colourCount = s.colourCount := rfl
@[simp] theorem State.forgetRams_bytesPerPattern : (s.forgetRams).bytesPerPattern = s.bytesPerPattern := rfl
@[simp] theorem State.forgetRams_rowBytes : (s.forgetRams).rowBytes = s.rowBytes := rfl
@[simp] theorem State.forgetRams_patternBytes : (s.forgetRams).patternBytes = s.patternBytes := rfl
@[simp] theorem State.forgetRams_tilesW : (s.forgetRams).tilesW = s.tilesW := rfl
@[simp] theorem State.forgetRams_tilesH : (s.forgetRams).tilesH = s.tilesH := rfl
@[simp] theorem State.forgetRams_stride (p : Params) : (s.forgetRams).stride p = s.stride p := rfl
@[simp] theorem State.forgetRams_pixelBytes (p : Params) : (s.forgetRams).pixelBytes p = s.pixelBytes p := rfl
@[simp] theorem State.forgetRams_configLegal (p : Params) :
    (s.forgetRams).configLegal p = s.configLegal p := rfl
@[simp] theorem State.forgetRams_maskColour (v : Nat) : (s.forgetRams).maskColour v = s.maskColour v := rfl
@[simp] theorem State.forgetRams_patBase (i : Nat) : (s.forgetRams).patBase i = s.patBase i := rfl
@[simp] theorem State.forgetRams_pixAddr (p : Params) (x y : Nat) :
    (s.forgetRams).pixAddr p x y = s.pixAddr p x y := rfl

@[simp] theorem hostByteAt_forgetRams (p : Params) (i : Nat) :
    hostByteAt p (s.forgetRams) i = hostByteAt p s i := rfl

end Sys2Proof.Machine
end

