-- ==== Sys2Proof/Laws/Ops.lean ====
section
/-!
SUPPORT. What each shared way of ending a command can do, said once.
-/

namespace Sys2Proof.Machine

open Config (Params)

/-- A finished command answers one next state. -/
theorem finish_next {r : Word} {s t : State} : finish r s = .next t ↔ t = s.withResult r := by
  simp [finish, eq_comm]

theorem noop_next {s t : State} : noop s = .next t ↔ t = s.withResult 0 := finish_next

/-- A command that needs a legal configuration answers a next state only with one. -/
theorem onLegal_next {p : Params} {s t : State} {k : Outcome} :
    onLegal p s k = .next t ↔ s.configLegal p = true ∧ k = .next t := by
  unfold onLegal
  split <;> simp [*]

@[simp] theorem onLegal_of_legal {p : Params} {s : State} (h : s.configLegal p = true) (k : Outcome) : onLegal p s k = k :=
  if_pos h

/-- A phase command either moves the phase or changes nothing but the result. -/
theorem movePhase_next {a b : Phase} {s t : State} :
    movePhase a b s = .next t ↔
      (s.phase = a ∧ t = (s.withPhase b).withResult 0) ∨ (s.phase ≠ a ∧ t = s.withResult 0) := by
  unfold movePhase
  split <;> simp_all [finish_next, noop_next]

/-- `raise Fatal` answers one next state (R245). -/
theorem raiseFatal_next {c : ErrorCode} {s t : State} :
    raiseFatal c s = .next t ↔
      t = (((s.emit [.error c true]).withConfig 0 0 0 0 0 0).withPhase .unconfigured).withResult 0 := finish_next

/-- A pattern transfer copies, does nothing, or meets a conversion the spec does not describe (R102). -/
theorem transfer_next {p : Params} {bits : Half} {c s t : State} :
    transfer p bits c s = .next t ↔
      (xfer p s.depth.toNat bits.toNat = .copy ∧ s.configLegal p = true ∧ t = c.withResult 0) ∨
        (xfer p s.depth.toNat bits.toNat = .none ∧ t = s.withResult 0) := by
  unfold transfer
  cases xfer p s.depth.toNat bits.toNat <;> simp [finish_next, noop_next, onLegal_next]

/-- With `CONV_IMPLEMENTED` empty no transfer converts (R102). -/
theorem xfer_rgx (depth bits : Nat) :
    xfer Config.rgx depth bits = if bits = depth ∧ bits ∈ [1, 2, 4, 8] then .copy else .none := by
  simp [xfer, Config.rgx]

/-! ### The parameters of RGX (R6) -/

@[simp] theorem rgx_strideAlign : Config.rgx.strideAlign = 4 := rfl
@[simp] theorem rgx_pixelRamBytes : Config.rgx.pixelRamBytes = 1048576 := rfl
@[simp] theorem rgx_patternRamBytes : Config.rgx.patternRamBytes = 16384 := rfl
@[simp] theorem rgx_convImplemented : Config.rgx.convImplemented = [] := rfl
@[simp] theorem rgx_setPixelGate : Config.rgx.setPixelGate = .modifying := rfl
@[simp] theorem rgx_hostAddrBits : Config.rgx.hostAddrBits = 32 := rfl
@[simp] theorem rgx_coordBits : Config.rgx.coordBits = 16 := rfl
@[simp] theorem rgx_ifVersion : Config.rgx.ifVersion = 1 := rfl

/-! ### What a step does, by the next host event -/

theorem step_idle {s : State} (h : s.inputs = []) : step s = .next s := by
  simp [step, takeEvent, h]

theorem step_reset {s : State} {rest : List HostEvent} (h : s.inputs = .reset :: rest) :
    step s = .next (resetBlock (s.withInputs rest)) := by
  simp [step, takeEvent, h]

theorem step_hostWrite {s : State} {a : Word} {v : Byte} {rest : List HostEvent} (h : s.inputs = .hostWrite a v :: rest) :
    step s = .next (hostStore a v (s.withInputs rest)) := by
  simp [step, takeEvent, h]

theorem step_command {s : State} {w : Packet} {rest : List HostEvent} (h : s.inputs = .command w :: rest) :
    step s = match decode w with
      | .ok i => exec i (s.withInputs rest)
      | .error _ => execReserved (s.withInputs rest) := by
  cases hd : decode w <;> simp [step, takeEvent, h, hd]

end Sys2Proof.Machine
end

