-- ==== Sys2Proof/Laws/Exec.lean ====
section
/-!
SUPPORT. What each command can do, said once: if it answers a next state, then that state is one of these.
-/

namespace Sys2Proof.Machine

open Config (Params)

variable {s t : State}

/-- CONFIGURE does nothing outside Unconfigured; in it, it ends in a storage error or takes the values (R200, R205). -/
theorem configure_next {p : Params} {cw ch sw sh bpp fr : Int} :
    configure p cw ch sw sh bpp fr s = .next t ↔
      (s.phase ≠ .unconfigured ∧ t = s.withResult 0) ∨
        (s.phase = .unconfigured ∧
          takeConfig p (clampRequests cw ch sw sh bpp fr)
            (s.emit (configWarnings (clampRequests cw ch sw sh bpp fr) cw ch sw sh bpp fr)) = .next t) := by
  unfold configure
  split <;> simp_all [noop_next]

/-- The end of CONFIGURE: one of the two storage errors, pattern storage first, or success (R200, R205). -/
theorem takeConfig_next {p : Params} {c : Clamped} :
    takeConfig p c s = .next t ↔
      (p.patternRamBytes < patternNeed c ∧ raiseFatal .patternStorage s = .next t) ∨
        (patternNeed c ≤ p.patternRamBytes ∧ p.pixelRamBytes < pixelNeed p c ∧ raiseFatal .pixelStorage s = .next t) ∨
        (patternNeed c ≤ p.patternRamBytes ∧ pixelNeed p c ≤ p.pixelRamBytes ∧
          t = ((s.withConfig c.cw c.ch c.sw c.sh c.d c.fr).forgetRams.withPhase .ready).withResult 1) := by
  unfold takeConfig
  split_ifs with h1 h2
  · simp [h1, Nat.not_le.2 h1]
  · simp [h1, h2, Nat.not_lt.1 h1, Nat.not_le.2 h2]
  · simp [h1, h2, Nat.not_lt.1 h1, Nat.not_lt.1 h2, finish_next]

/-- TEARDOWN (R206). -/
theorem execTeardown_next :
    execTeardown s = .next t ↔
      (s.phase = .ready ∧ t = ((s.withConfig 0 0 0 0 0 0).forgetRams.withPhase .unconfigured).withResult 0) ∨
        (s.phase ≠ .ready ∧ t = s.withResult 0) := by
  unfold execTeardown
  split <;> simp_all [finish_next, noop_next]

/-- CLEAR (R209). -/
theorem clear_next {p : Params} :
    clear p s = .next t ↔
      (s.phase = .ready ∧ s.configLegal p = true ∧
          t = (s.withPix (Memory.fill s.pix (s.pixelBytes p) 0)).withResult 0) ∨
        (s.phase ≠ .ready ∧ t = s.withResult 0) := by
  unfold clear
  split <;> simp_all [onLegal_next, finish_next, noop_next]

/-- PRESENT (R213). -/
theorem present_next {p : Params} :
    present p s = .next t ↔
      (s.phase = .ready ∧ s.configLegal p = true ∧ t = (s.emitFrame (snapshot p s)).withResult 0) ∨
        (s.phase ≠ .ready ∧ t = s.withResult 0) := by
  unfold present
  split <;> simp_all [onLegal_next, finish_next, noop_next]

/-- GET_INFO (R214). -/
theorem execGetInfo_next {sel : Half} :
    execGetInfo sel s = .next t ↔ t = s.withResult (BitVec.ofNat 32 (info Config.rgx s sel.toNat)) := finish_next

/-- GET_COLOUR (R134). -/
theorem getColour_next {p : Params} {index : Half} :
    getColour p index s = .next t ↔
      (s.phase = .unconfigured ∧ t = s.withResult 0) ∨
        (s.phase ≠ .unconfigured ∧ s.configLegal p = true ∧
          t = s.withResult ((palEntry s (s.maskColour index.toNat)).setWidth 32)) := by
  unfold getColour
  split <;> simp_all [onLegal_next, finish_next, noop_next]

/-- SET_COLOUR (R135). -/
theorem setColour_next {p : Params} {index : Half} {colour : Colour} :
    setColour p index colour s = .next t ↔
      (s.phase = .modifying ∧ s.configLegal p = true ∧
          t = (s.withPal (Memory.write s.pal (s.maskColour index.toNat) colour)).withResult 0) ∨
        (s.phase ≠ .modifying ∧ t = s.withResult 0) := by
  unfold setColour
  split <;> simp_all [onLegal_next, finish_next, noop_next]

/-- READ_PALETTE (R136). -/
theorem readPalette_next {p : Params} {out : Word} :
    readPalette p out s = .next t ↔
      ((s.phase = .unconfigured ∨ out = 0) ∧ t = s.withResult 0) ∨
        (s.phase ≠ .unconfigured ∧ out ≠ 0 ∧ s.configLegal p = true ∧
          t = (s.withHostMem (hostWriteBytes p s.hostMem out.toNat (paletteBytes s))).withResult 0) := by
  unfold readPalette
  split
  · simp_all [noop_next]; tauto
  · simp_all [onLegal_next, finish_next]

/-- WRITE_PALETTE (R138). -/
theorem writePalette_next {p : Params} {src : Word} :
    writePalette p src s = .next t ↔
      ((s.phase ≠ .modifying ∨ src = 0) ∧ t = s.withResult 0) ∨
        (s.phase = .modifying ∧ src ≠ 0 ∧ s.configLegal p = true ∧
          t = (s.withPal (Memory.writeList s.pal 0 (paletteAt p s src.toNat))).withResult 0) := by
  unfold writePalette
  split <;> simp_all [onLegal_next, finish_next, noop_next]
  tauto

/-- READ_PATTERN (R103). -/
theorem readPattern_next {p : Params} {index bits : Half} {out : Word} :
    readPattern p index bits out s = .next t ↔
      ((s.phase = .unconfigured ∨ out = 0 ∨ xfer p s.depth.toNat bits.toNat = .none) ∧ t = s.withResult 0) ∨
        (s.phase ≠ .unconfigured ∧ out ≠ 0 ∧ xfer p s.depth.toNat bits.toNat = .copy ∧ s.configLegal p = true ∧
          t = (s.withHostMem (hostWriteBytes p s.hostMem out.toNat (patternBytesOf s index.toNat))).withResult 0) := by
  unfold readPattern
  split
  · simp_all [noop_next]; tauto
  · simp_all [transfer_next]; tauto

/-- WRITE_PATTERN (R105). -/
theorem writePattern_next {p : Params} {index bits : Half} {src : Word} :
    writePattern p index bits src s = .next t ↔
      ((s.phase ≠ .modifying ∨ src = 0 ∨ xfer p s.depth.toNat bits.toNat = .none) ∧ t = s.withResult 0) ∨
        (s.phase = .modifying ∧ src ≠ 0 ∧ xfer p s.depth.toNat bits.toNat = .copy ∧ s.configLegal p = true ∧
          t = (s.withPat (Memory.writeList s.pat (s.patBase index.toNat)
            (hostRead p s src.toNat (8 * s.depth.toNat)))).withResult 0) := by
  unfold writePattern
  split
  · simp_all [noop_next]; tauto
  · simp_all [transfer_next]; tauto

/-- GET_PIXEL (R130). -/
theorem getPixel_next {p : Params} {x y : Int} :
    getPixel p x y s = .next t ↔
      (s.phase = .rendering ∧ s.inScreen x y ∧ s.configLegal p = true ∧
          t = s.withResult (BitVec.ofNat 32 (pixGet p s x.toNat y.toNat))) ∨
        (¬ (s.phase = .rendering ∧ s.inScreen x y) ∧ t = s.withResult 0) := by
  unfold getPixel
  split
  · rename_i h; simp only [onLegal_next, finish_next]; tauto
  · rename_i h; simp only [noop_next]; tauto

/-- SET_PIXEL (R132). -/
theorem setPixel_next {p : Params} {x y : Int} {index : Half} :
    setPixel p x y index s = .next t ↔
      (s.phase = gatePhase p.setPixelGate ∧ s.inScreen x y ∧ s.configLegal p = true ∧
          t = (s.withPix (pixPutIn p s s.pix x.toNat y.toNat (s.maskColour index.toNat))).withResult 0) ∨
        (¬ (s.phase = gatePhase p.setPixelGate ∧ s.inScreen x y) ∧ t = s.withResult 0) := by
  unfold setPixel
  split
  · rename_i h; simp only [onLegal_next, finish_next]; tauto
  · rename_i h; simp only [noop_next]; tauto

/-- DRAW_SPRITE (R160). -/
theorem drawSprite_next {p : Params} {a : SpriteArgs} :
    drawSprite p a s = .next t ↔
      (s.phase = .rendering ∧ s.configLegal p = true ∧ t = (s.withPix (spriteLoops p s a)).withResult 0) ∨
        (s.phase ≠ .rendering ∧ t = s.withResult 0) := by
  unfold drawSprite
  split <;> simp_all [onLegal_next, finish_next, noop_next]

/-- DRAW_TILES (R180). -/
theorem drawTiles_next {p : Params} {a : TileArgs} :
    drawTiles p a s = .next t ↔
      ((s.phase ≠ .rendering ∨ a.tiles = 0 ∨ a.palettes = 0) ∧ t = s.withResult 0) ∨
        (s.phase = .rendering ∧ a.tiles ≠ 0 ∧ a.palettes ≠ 0 ∧ s.configLegal p = true ∧
          t = (s.withPix (gridLoops p s a)).withResult 0) := by
  unfold drawTiles
  split
  · simp_all [noop_next]; tauto
  · simp_all [onLegal_next, finish_next]

end Sys2Proof.Machine
end

