-- ==== Sys2Proof/Laws/Memory.lean ====
section
/-!
SUPPORT. The laws of memories: a read after a write, a fill or a list of writes; the canonical form and the bound on addresses
are kept by every memory operation.
-/

namespace Sys2Proof.Machine

open Config (Params)

variable {w : Nat}

@[simp] theorem Memory.read?_nil (a : Nat) : Memory.read? ([] : Memory w) a = none := rfl

/-- A read after a write gives the value written, and a write leaves every other address alone. -/
theorem Memory.read?_write (m : Memory w) (a b : Nat) (v : BitVec w) :
    Memory.read? (Memory.write m a v) b = if b = a then some v else Memory.read? m b := by
  induction m with
  | nil => simp [Memory.write, Memory.read?, eq_comm]
  | cons c m ih =>
    obtain ⟨k, u⟩ := c
    simp only [Memory.write]
    split
    · simp [Memory.read?, eq_comm]
    · split
      · subst a
        by_cases h : k = b
        · simp [Memory.read?, h]
        · simp [Memory.read?, h, Ne.symm h]
      · by_cases h : k = b
        · subst b; simp [Memory.read?, eq_comm, *]
        · simp [Memory.read?, h, ih]

@[simp] theorem Memory.read?_write_same (m : Memory w) (a : Nat) (v : BitVec w) :
    Memory.read? (Memory.write m a v) a = some v := by simp [Memory.read?_write]

theorem Memory.read?_write_other (m : Memory w) {a b : Nat} (v : BitVec w) (h : b ≠ a) :
    Memory.read? (Memory.write m a v) b = Memory.read? m b := by simp [Memory.read?_write, h]

/-- The entries of a memory after a write. -/
theorem Memory.mem_write {m : Memory w} {a : Nat} {v : BitVec w} {c : Nat × BitVec w}
    (h : c ∈ Memory.write m a v) : c = (a, v) ∨ c ∈ m := by
  induction m with
  | nil => simpa [Memory.write] using h
  | cons d m ih =>
    obtain ⟨k, u⟩ := d
    simp only [Memory.write] at h
    split at h
    · simpa using h
    · split at h
      · rcases List.mem_cons.1 h with h | h
        · exact .inl h
        · exact .inr (List.mem_cons_of_mem _ h)
      · rcases List.mem_cons.1 h with h | h
        · exact .inr (h ▸ List.mem_cons_self)
        · exact (ih h).imp_right (List.mem_cons_of_mem _)

theorem Memory.wf_nil : Memory.wf ([] : Memory w) := List.Pairwise.nil

/-- A write keeps the canonical form. -/
theorem Memory.wf_write {m : Memory w} (h : Memory.wf m) (a : Nat) (v : BitVec w) : Memory.wf (Memory.write m a v) := by
  induction m with
  | nil => exact List.pairwise_singleton _ _
  | cons c m ih =>
    obtain ⟨k, u⟩ := c
    have hk : ∀ c ∈ m, k < c.1 := by
      intro c hc
      exact (List.pairwise_cons.1 h).1 _ (List.mem_map_of_mem hc)
    have hm : Memory.wf m := (List.pairwise_cons.1 h).2
    simp only [Memory.write]
    split
    · rename_i hlt
      refine List.pairwise_cons.2 ⟨?_, h⟩
      intro b hb
      simp only [List.map_cons, List.mem_cons, List.mem_map] at hb
      rcases hb with rfl | ⟨c, hc, rfl⟩
      · exact hlt
      · exact hlt.trans (hk c hc)
    · split
      · rename_i heq
        subst heq
        exact h
      · rename_i h1 h2
        refine List.pairwise_cons.2 ⟨?_, ih hm⟩
        intro b hb
        obtain ⟨c, hc, rfl⟩ := List.mem_map.1 hb
        rcases Memory.mem_write hc with rfl | hc
        · simp only; omega
        · exact hk c hc

theorem Memory.below_nil (n : Nat) : Memory.below ([] : Memory w) n := by simp

/-- A write below the bound keeps the bound. -/
theorem Memory.below_write {m : Memory w} {n a : Nat} (h : Memory.below m n) (ha : a < n) (v : BitVec w) :
    Memory.below (Memory.write m a v) n := by
  intro c hc
  rcases Memory.mem_write hc with rfl | hc
  · exact ha
  · exact h c hc

/-- A read after a list of writes at consecutive addresses. -/
theorem Memory.read?_writeList (vs : List (BitVec w)) (m : Memory w) (a b : Nat) :
    Memory.read? (Memory.writeList m a vs) b =
      if a ≤ b ∧ b < a + vs.length then vs[b - a]? else Memory.read? m b := by
  induction vs generalizing m a with
  | nil =>
    rw [if_neg (by simp only [List.length_nil]; omega)]
    rfl
  | cons v vs ih =>
    simp only [Memory.writeList, ih, Memory.read?_write, List.length_cons]
    by_cases h1 : b = a
    · subst h1; simp
    · by_cases h2 : a + 1 ≤ b ∧ b < a + 1 + vs.length
      · have : b - a = (b - (a + 1)) + 1 := by omega
        rw [if_pos h2, if_pos (by omega), this, List.getElem?_cons_succ]
      · rw [if_neg h2, if_neg h1, if_neg (by omega)]

theorem Memory.wf_writeList (vs : List (BitVec w)) {m : Memory w} (h : Memory.wf m) (a : Nat) :
    Memory.wf (Memory.writeList m a vs) := by
  induction vs generalizing m a with
  | nil => exact h
  | cons v vs ih => exact ih (Memory.wf_write h a v) (a + 1)

theorem Memory.below_writeList (vs : List (BitVec w)) {m : Memory w} {n a : Nat} (h : Memory.below m n)
    (ha : a + vs.length ≤ n) : Memory.below (Memory.writeList m a vs) n := by
  induction vs generalizing m a with
  | nil => exact h
  | cons v vs ih =>
    simp only [List.length_cons] at ha
    exact ih (Memory.below_write h (by omega) v) (by omega)

/-- A read in a constant list of consecutive cells. -/
theorem Memory.read?_range_append (n : Nat) (v : BitVec w) (m : Memory w) (a : Nat) :
    Memory.read? ((List.range n).map (fun k => (k, v)) ++ m) a = if a < n then some v else Memory.read? m a := by
  induction n generalizing m with
  | zero => simp
  | succ n ih =>
    rw [List.range_succ, List.map_append, List.append_assoc, ih]
    by_cases h : a < n
    · simp [h, Nat.lt_succ_of_lt h]
    · by_cases h' : n = a
      · subst h'; simp [Memory.read?]
      · have : ¬ a < n + 1 := by omega
        simp [h, this, Memory.read?, h']

theorem Memory.read?_filter_ge (m : Memory w) (n a : Nat) (h : n ≤ a) :
    Memory.read? (m.filter (fun c => decide (n ≤ c.1))) a = Memory.read? m a := by
  induction m with
  | nil => rfl
  | cons c m ih =>
    obtain ⟨k, u⟩ := c
    by_cases hk : k = a
    · subst hk; simp [Memory.read?, h]
    · by_cases hn : n ≤ k <;> simp [Memory.read?, hk, hn, ih]

/-- A read after a fill. -/
theorem Memory.read?_fill (m : Memory w) (n a : Nat) (v : BitVec w) :
    Memory.read? (Memory.fill m n v) a = if a < n then some v else Memory.read? m a := by
  simp only [Memory.fill, Memory.read?_range_append]
  split
  · rfl
  · exact Memory.read?_filter_ge m n a (by omega)

theorem Memory.wf_fill {m : Memory w} (h : Memory.wf m) (n : Nat) (v : BitVec w) : Memory.wf (Memory.fill m n v) := by
  simp only [Memory.wf, Memory.fill, List.map_append, List.map_map]
  refine List.pairwise_append.2 ⟨?_, ?_, ?_⟩
  · simpa [Function.comp_def] using List.pairwise_lt_range (n := n)
  · exact List.Pairwise.sublist (List.Sublist.map _ List.filter_sublist) h
  · intro a ha b hb
    simp only [List.mem_map, List.mem_range, List.mem_filter, decide_eq_true_eq, Function.comp_apply] at ha hb
    obtain ⟨k, hk, rfl⟩ := ha
    obtain ⟨c, ⟨-, hc⟩, rfl⟩ := hb
    omega

theorem Memory.below_fill {m : Memory w} {n : Nat} (h : Memory.below m n) (v : BitVec w) :
    Memory.below (Memory.fill m n v) n := by
  intro c hc
  simp only [Memory.fill, List.mem_append, List.mem_map, List.mem_range, List.mem_filter] at hc
  rcases hc with ⟨k, hk, rfl⟩ | ⟨hc, -⟩
  · exact hk
  · exact h c hc

/-! ### Host memory -/

theorem hostAddr_lt (p : Params) (a : Nat) : hostAddr p a < 2 ^ p.hostAddrBits :=
  Nat.mod_lt _ (Nat.two_pow_pos _)

theorem wf_hostWriteBytes (p : Params) (bs : List Byte) {m : Memory 8} (h : Memory.wf m) (a : Nat) :
    Memory.wf (hostWriteBytes p m a bs) := by
  induction bs generalizing m a with
  | nil => exact h
  | cons b bs ih => exact ih (Memory.wf_write h _ b) (a + 1)

theorem below_hostWriteBytes (p : Params) (bs : List Byte) {m : Memory 8}
    (h : Memory.below m (2 ^ p.hostAddrBits)) (a : Nat) :
    Memory.below (hostWriteBytes p m a bs) (2 ^ p.hostAddrBits) := by
  induction bs generalizing m a with
  | nil => exact h
  | cons b bs ih => exact ih (Memory.below_write h (hostAddr_lt p a) b) (a + 1)

/-- `MemWrite` leaves every byte outside its buffer alone. -/
theorem read?_hostWriteBytes_other (p : Params) (bs : List Byte) (m : Memory 8) (a b : Nat)
    (h : ∀ i < bs.length, b ≠ hostAddr p (a + i)) :
    Memory.read? (hostWriteBytes p m a bs) b = Memory.read? m b := by
  induction bs generalizing m a with
  | nil => rfl
  | cons v bs ih =>
    rw [hostWriteBytes, ih]
    · exact Memory.read?_write_other m v (by simpa using h 0 (by simp))
    · intro i hi
      have := h (i + 1) (by simpa using hi)
      rwa [show a + (i + 1) = a + 1 + i by omega] at this

/-- `MemWrite` of no more bytes than the address space holds stores each byte of the list. -/
theorem read?_hostWriteBytes (p : Params) (bs : List Byte) (m : Memory 8) (a i : Nat) (hi : i < bs.length)
    (hn : bs.length ≤ 2 ^ p.hostAddrBits) :
    Memory.read? (hostWriteBytes p m a bs) (hostAddr p (a + i)) = bs[i]? := by
  induction bs generalizing m a i with
  | nil => simp at hi
  | cons v bs ih =>
    simp only [List.length_cons] at hi hn
    cases i with
    | zero =>
      rw [hostWriteBytes, read?_hostWriteBytes_other]
      · simp
      · intro j hj heq
        simp only [hostAddr, Nat.add_zero] at heq
        have h1 : (j + 1) % 2 ^ p.hostAddrBits = 0 := by
          have : (a + (j + 1)) % 2 ^ p.hostAddrBits = (a + 0) % 2 ^ p.hostAddrBits := by
            rw [show a + (j + 1) = a + 1 + j by omega, ← heq, Nat.add_zero]
          exact (Nat.ModEq.add_left_cancel' a this)
        rw [Nat.mod_eq_of_lt (by omega)] at h1
        omega
    | succ i =>
      rw [hostWriteBytes, show a + (i + 1) = a + 1 + i by omega, ih (Memory.write m (hostAddr p a) v) (a + 1) i (by omega) (by omega),
        List.getElem?_cons_succ]

end Sys2Proof.Machine
end

