-- ==== Sys2Proof/Laws/PerInstr.lean ====
section
/-!
SUPPORT. Statements for all commands, made per command. Family `EncodedOpcode`: the packet of a command carries the command's own
opcode, and that opcode is one of the nineteen (R76).
-/

namespace Sys2Proof.Laws.EncodedOpcode

open Sys2Proof.Machine

/-- The opcode of a command's packet (R76). -/
def Statement (i : Instr) : Prop := (encode i).opcode = opcodeOf i ∧ opcodeOf i ∈ commandOpcodes

theorem configure (cw ch sw sh bpp fr : Int) : Statement (.configure cw ch sw sh bpp fr) :=
  ⟨packet_opcode .., by simp [opcodeOf, commandOpcodes]⟩
theorem teardown : Statement .teardown := ⟨packet_opcode .., by simp [opcodeOf, commandOpcodes]⟩
theorem modifyEnter : Statement .modifyEnter := ⟨packet_opcode .., by simp [opcodeOf, commandOpcodes]⟩
theorem modifyExit : Statement .modifyExit := ⟨packet_opcode .., by simp [opcodeOf, commandOpcodes]⟩
theorem renderEnter : Statement .renderEnter := ⟨packet_opcode .., by simp [opcodeOf, commandOpcodes]⟩
theorem renderExit : Statement .renderExit := ⟨packet_opcode .., by simp [opcodeOf, commandOpcodes]⟩
theorem clear : Statement .clear := ⟨packet_opcode .., by simp [opcodeOf, commandOpcodes]⟩
theorem present : Statement .present := ⟨packet_opcode .., by simp [opcodeOf, commandOpcodes]⟩
theorem getInfo (sel : Half) : Statement (.getInfo sel) := ⟨packet_opcode .., by simp [opcodeOf, commandOpcodes]⟩
theorem getColour (index : Half) : Statement (.getColour index) := ⟨packet_opcode .., by simp [opcodeOf, commandOpcodes]⟩
theorem setColour (index : Half) (colour : Colour) : Statement (.setColour index colour) :=
  ⟨packet_opcode .., by simp [opcodeOf, commandOpcodes]⟩
theorem readPalette (out : Word) : Statement (.readPalette out) := ⟨packet_opcode .., by simp [opcodeOf, commandOpcodes]⟩
theorem writePalette (src : Word) : Statement (.writePalette src) := ⟨packet_opcode .., by simp [opcodeOf, commandOpcodes]⟩
theorem readPattern (index bits : Half) (out : Word) : Statement (.readPattern index bits out) :=
  ⟨packet_opcode .., by simp [opcodeOf, commandOpcodes]⟩
theorem writePattern (index bits : Half) (src : Word) : Statement (.writePattern index bits src) :=
  ⟨packet_opcode .., by simp [opcodeOf, commandOpcodes]⟩
theorem getPixel (x y : Int) : Statement (.getPixel x y) := ⟨packet_opcode .., by simp [opcodeOf, commandOpcodes]⟩
theorem setPixel (x y : Int) (index : Half) : Statement (.setPixel x y index) := ⟨packet_opcode .., by simp [opcodeOf, commandOpcodes]⟩
theorem drawSprite (x y : Int) (pattern : Half) (palette : Word) (hflip vflip hwrap vwrap : Bool) :
    Statement (.drawSprite x y pattern palette hflip vflip hwrap vwrap) := ⟨packet_opcode .., by simp [opcodeOf, commandOpcodes]⟩
theorem drawTiles (x y : Int) (tiles palettes : Word) (hwrap vwrap transparent : Bool) :
    Statement (.drawTiles x y tiles palettes hwrap vwrap transparent) := ⟨packet_opcode .., by simp [opcodeOf, commandOpcodes]⟩

end Sys2Proof.Laws.EncodedOpcode
end

