-- ==== Sys2Proof/Laws/Pixel.lean ====
section
/-!
SUPPORT. What `PixPut` does to pixel RAM, byte by byte, and what a legal configuration says (spec 20_memory.md R43, R46).
-/

namespace Sys2Proof.Machine

open Config (Params)

/-- The parts of a legal configuration (R14 to R17, R205). -/
theorem configLegal_iff {p : Params} {s : State} :
    s.configLegal p = true ↔
      legalDim s.canvasW.toNat ∧ legalDim s.canvasH.toNat ∧ legalDim s.screenW.toNat ∧ legalDim s.screenH.toNat ∧
        s.screenW.toNat ≤ s.canvasW.toNat ∧ s.screenH.toNat ≤ s.canvasH.toNat ∧
        s.depth.toNat ∈ [1, 2, 4, 8] ∧ 1 ≤ s.frameRate.toNat ∧ s.frameRate.toNat ≤ 60 ∧
        s.patternBytes ≤ p.patternRamBytes ∧ s.pixelBytes p ≤ p.pixelRamBytes := by
  simp only [State.configLegal, decide_eq_true_eq]

/-- `alignup` reaches at least its argument (R7). -/
theorem le_alignUp (v a : Nat) (ha : 0 < a) : v ≤ alignUp v a := by
  unfold alignUp
  have h := Nat.div_add_mod (v + (a - 1)) a
  have h' := Nat.mod_lt (v + (a - 1)) ha
  have : a * ((v + (a - 1)) / a) = (v + (a - 1)) / a * a := Nat.mul_comm _ _
  omega

/-- The byte offset of a sample inside the row's pixel bytes (R46, R47). -/
theorem byteOff_lt_rowBytes {s : State} {x : Nat} (hs : s.phase ≠ .unconfigured) (hd : s.depth.toNat ∈ [1, 2, 4, 8])
    (hw : s.screenW.toNat % 8 = 0) (hx : x < s.screenW.toNat) : byteOff s.depth.toNat x < s.rowBytes := by
  simp only [byteOff, State.rowBytes, if_neg hs]
  obtain ⟨n, hn⟩ := Nat.dvd_of_mod_eq_zero hw
  rw [hn] at hx ⊢
  generalize s.depth.toNat = d at *
  have h1 : 8 * n * d / 8 = n * d := by rw [Nat.mul_assoc, Nat.mul_div_cancel_left _ (by decide)]
  rw [h1]
  simp only [List.mem_cons, List.not_mem_nil, or_false] at hd
  rcases hd with rfl | rfl | rfl | rfl <;> omega

/-- A pixel of the screen lies in a byte of pixel RAM in use (R41, R46). -/
theorem pixAddr_lt {p : Params} {s : State} {x y : Nat} (ha : 0 < p.strideAlign) (hs : s.phase ≠ .unconfigured)
    (hl : s.configLegal p = true) (hx : x < s.screenW.toNat) (hy : y < s.screenH.toNat) :
    s.pixAddr p x y < s.pixelBytes p := by
  obtain ⟨-, -, ⟨hw, -⟩, -, -, -, hd, -⟩ := configLegal_iff.1 hl
  have h1 := byteOff_lt_rowBytes hs hd hw hx
  have h2 := le_alignUp s.rowBytes p.strideAlign ha
  simp only [State.pixAddr, State.pixelBytes, State.stride]
  have h3 : (y + 1) * alignUp s.rowBytes p.strideAlign ≤ s.screenH.toNat * alignUp s.rowBytes p.strideAlign :=
    Nat.mul_le_mul_right _ hy
  rw [Nat.add_mul, Nat.one_mul] at h3
  rw [Nat.mul_comm (alignUp s.rowBytes p.strideAlign)]
  omega

/-- `PixPut` changes one byte of pixel RAM, the one that holds the pixel, by `pack` (R46). -/
theorem pixByteIn_pixPutIn (p : Params) (s : State) (m : Memory 8) (x y v a : Nat) :
    pixByteIn s.ramEpoch (pixPutIn p s m x y v) a =
      if a = s.pixAddr p x y then pack s.depth.toNat (pixByteIn s.ramEpoch m a) x v else pixByteIn s.ramEpoch m a := by
  unfold pixPutIn pixByteIn
  rw [Memory.read?_write]
  split
  · subst a; rfl
  · rfl

theorem wf_pixPutIn (p : Params) (s : State) {m : Memory 8} (h : Memory.wf m) (x y v : Nat) :
    Memory.wf (pixPutIn p s m x y v) := Memory.wf_write h _ _

theorem below_pixPutIn {p : Params} {s : State} {m : Memory 8} {n x y : Nat} (h : Memory.below m n)
    (ha : s.pixAddr p x y < n) (v : Nat) : Memory.below (pixPutIn p s m x y v) n := Memory.below_write h ha _

/-- What pixel writes leave of pixel RAM: every byte that holds none of their pixels. -/
theorem pixByteIn_putAll_other (p : Params) (s : State) (ws : List PixelWrite) (m : Memory 8) {a : Nat}
    (h : ∀ w ∈ ws, a ≠ s.pixAddr p w.1 w.2.1) : pixByteIn s.ramEpoch (putAll p s ws m) a = pixByteIn s.ramEpoch m a := by
  induction ws generalizing m with
  | nil => rfl
  | cons w ws ih =>
    rw [putAll, List.foldl_cons]
    refine (ih _ fun u hu => h u (List.mem_cons_of_mem _ hu)).trans ?_
    rw [pixByteIn_pixPutIn, if_neg (h w List.mem_cons_self)]

/-- Pixel writes in two parts. -/
theorem putAll_append (p : Params) (s : State) (ws us : List PixelWrite) (m : Memory 8) :
    putAll p s (ws ++ us) m = putAll p s us (putAll p s ws m) := List.foldl_append

end Sys2Proof.Machine
end

