-- ==== Sys2Proof/Machine/Assembler.lean ====
section
/-!
DEFINITION. The assembler syntax of the spec (30_encoding.md R81) as a printer of commands, and the expansion of the two
pseudo-commands (R82).
-/

namespace Sys2Proof.Machine

/-- The expansion of a pseudo-command (R82). -/
def expandPseudo : Pseudo → List Instr
  | .frameBegin => [.clear, .renderEnter]
  | .frameEnd => [.renderExit, .present]

/-- A pointer operand: `null`, or a hexadecimal address (R81). -/
def pointerText (a : Word) : String :=
  if a = 0 then "null" else "0x" ++ String.ofList (Nat.toDigits 16 a.toNat)

/-- A Boolean operand, `0` or `1` (R81). -/
def flagText (b : Bool) : String := if b then "1" else "0"

/-- The mnemonic of a command (R76). -/
def mnemonic : Instr → String
  | .configure _ _ _ _ _ _ => "CONFIGURE"
  | .teardown => "TEARDOWN"
  | .modifyEnter => "MODIFY_ENTER"
  | .modifyExit => "MODIFY_EXIT"
  | .renderEnter => "RENDER_ENTER"
  | .renderExit => "RENDER_EXIT"
  | .clear => "CLEAR"
  | .present => "PRESENT"
  | .getInfo _ => "GET_INFO"
  | .getColour _ => "GET_COLOUR"
  | .setColour _ _ => "SET_COLOUR"
  | .readPalette _ => "READ_PALETTE"
  | .writePalette _ => "WRITE_PALETTE"
  | .readPattern _ _ _ => "READ_PATTERN"
  | .writePattern _ _ _ => "WRITE_PATTERN"
  | .getPixel _ _ => "GET_PIXEL"
  | .setPixel _ _ _ => "SET_PIXEL"
  | .drawSprite _ _ _ _ _ _ _ _ => "DRAW_SPRITE"
  | .drawTiles _ _ _ _ _ _ _ => "DRAW_TILES"

/-- The operands of a command, in the order of R81. -/
def operandTexts : Instr → List String
  | .configure cw ch sw sh bpp fr => [cw, ch, sw, sh, bpp, fr].map toString
  | .teardown => []
  | .modifyEnter => []
  | .modifyExit => []
  | .renderEnter => []
  | .renderExit => []
  | .clear => []
  | .present => []
  | .getInfo sel => [toString sel.toNat]
  | .getColour index => [toString index.toNat]
  | .setColour index colour => [toString index.toNat, "0x" ++ String.ofList (Nat.toDigits 16 colour.toNat)]
  | .readPalette out => [pointerText out]
  | .writePalette src => [pointerText src]
  | .readPattern index bits out => [toString index.toNat, toString bits.toNat, pointerText out]
  | .writePattern index bits src => [toString index.toNat, toString bits.toNat, pointerText src]
  | .getPixel x y => [toString x, toString y]
  | .setPixel x y index => [toString x, toString y, toString index.toNat]
  | .drawSprite x y pattern palette hf vf hw vw =>
    [toString x, toString y, toString pattern.toNat, pointerText palette, flagText hf, flagText vf, flagText hw,
      flagText vw]
  | .drawTiles x y tiles palettes hw vw tr =>
    [toString x, toString y, pointerText tiles, pointerText palettes, flagText hw, flagText vw, flagText tr]

/-- Operands separated by commas (R81). -/
def commaList : List String → String
  | [] => ""
  | [t] => t
  | t :: ts => t ++ ", " ++ commaList ts

/-- One line of assembler text: the mnemonic in capitals, then the operands (R81; log entry 20). -/
def assemblerText (i : Instr) : String :=
  if (operandTexts i).isEmpty then mnemonic i else mnemonic i ++ " " ++ commaList (operandTexts i)

end Sys2Proof.Machine
end

