-- ==== Sys2Proof/Tests/Slice0.lean ====
section
/-!
SUPPORT. Tests. Expected values are those of spec/95_test_vectors.md (the vector's id stands in the comment) and of the worked
examples of the rules; none is the model's own answer.
-/

namespace Sys2Proof.Tests

open Sys2Proof.Machine

/-! ### Helpers -/

/-- A configured state with the given phase, dimensions and depth, frame rate 30, every RAM unspecified. -/
def base (ph : Phase) (cw ch sw sh d : Nat) : State := (State.reset.withConfig cw ch sw sh d 30).withPhase ph

/-- Cells at consecutive addresses. -/
def cells (a : Nat) (bytes : List Nat) : List Host.Cell := bytes.mapIdx fun i b => (a + i, BitVec.ofNat 8 b)

/-- A list repeated. -/
def rep (n : Nat) (l : List Nat) : List Nat := (List.replicate n l).flatten

/-- The pixel RAM bytes of a row of `stride` bytes after a command, or nothing if it stopped. -/
def rowAfter (o : Outcome) (row : Nat) : List Nat :=
  match o with
  | .next t => (List.range (t.stride Config.rgx)).map fun i => (pixByte t (row * t.stride Config.rgx + i)).toNat
  | .fault _ => []
  | .refused _ => []

def resultOf (o : Outcome) : Option Nat :=
  match o with
  | .next t => t.result.map BitVec.toNat
  | .fault _ => none
  | .refused _ => none

def hostAfter (o : Outcome) (a n : Nat) : List Nat :=
  match o with
  | .next t => (hostRead Config.rgx t a n).map BitVec.toNat
  | .fault _ => []
  | .refused _ => []

/-- The registers, phase first, after a command. -/
def configAfter (o : Outcome) : List Nat :=
  match o with
  | .next t => [t.phase.code.toNat, t.canvasW.toNat, t.canvasH.toNat, t.screenW.toNat, t.screenH.toNat, t.depth.toNat,
      t.frameRate.toNat, t.stride Config.rgx, t.pixelBytes Config.rgx]
  | .fault _ => []
  | .refused _ => []

/-- The codes on the Output stream after a command: warnings as they are, errors plus 100. -/
def eventsAfter (o : Outcome) : List Nat :=
  match o with
  | .next t => t.output.map fun e => match e with
    | .warn c => c.number
    | .error c _ => 100 + c.number
  | .fault _ => []
  | .refused _ => []

def palAfter (o : Outcome) : Memory 24 :=
  match o with
  | .next t => t.pal
  | .fault _ => []
  | .refused _ => []

def patAfter (o : Outcome) : Memory 8 :=
  match o with
  | .next t => t.pat
  | .fault _ => []
  | .refused _ => []

/-! ### Well-formedness: an ill-formed command for each check -/

theorem test_wf_configure_cw : (Instr.configure 32768 8 8 8 1 1).wellFormed = false := by decide
theorem test_wf_configure_ch : (Instr.configure 8 (-32769) 8 8 1 1).wellFormed = false := by decide
theorem test_wf_configure_sw : (Instr.configure 8 8 32768 8 1 1).wellFormed = false := by decide
theorem test_wf_configure_sh : (Instr.configure 8 8 8 (-32769) 1 1).wellFormed = false := by decide
theorem test_wf_configure_bpp : (Instr.configure 8 8 8 8 32768 1).wellFormed = false := by decide
theorem test_wf_configure_rate : (Instr.configure 8 8 8 8 1 40000).wellFormed = false := by decide
theorem test_wf_getPixel_x : (Instr.getPixel 32768 0).wellFormed = false := by decide
theorem test_wf_getPixel_y : (Instr.getPixel 0 (-32769)).wellFormed = false := by decide
theorem test_wf_setPixel_x : (Instr.setPixel (-32769) 0 0).wellFormed = false := by decide
theorem test_wf_setPixel_y : (Instr.setPixel 0 32768 0).wellFormed = false := by decide
theorem test_wf_sprite_x : (Instr.drawSprite 32768 0 0 0 false false false false).wellFormed = false := by decide
theorem test_wf_sprite_y : (Instr.drawSprite 0 (-32769) 0 0 false false false false).wellFormed = false := by decide
theorem test_wf_tiles_x : (Instr.drawTiles (-32769) 0 0 0 false false false).wellFormed = false := by decide
theorem test_wf_tiles_y : (Instr.drawTiles 0 32768 0 0 false false false).wellFormed = false := by decide
theorem test_wf_edges : (Instr.getPixel (-32768) 32767).wellFormed = true := by decide

/-! ### Decoding: the packets of section 2.8, one per command -/

theorem test_decode_configure :
    decode 0x001E0001000800100008001000000001#128 = .ok (.configure 16 8 16 8 1 30) := by decide
theorem test_decode_configure_signed : -- G6
    decode 0xFFE20002040100090007FFFB00000001#128 = .ok (.configure (-5) 7 9 1025 2 (-30)) := by decide
theorem test_decode_teardown : decode 0x2#128 = .ok .teardown := by decide
theorem test_decode_modifyEnter : decode 0x3#128 = .ok .modifyEnter := by decide
theorem test_decode_modifyExit : decode 0x4#128 = .ok .modifyExit := by decide
theorem test_decode_renderEnter : decode 0x5#128 = .ok .renderEnter := by decide
theorem test_decode_renderExit : decode 0x6#128 = .ok .renderExit := by decide
theorem test_decode_clear : decode 0x0FEDCBA99ABCDEF0123456780001FF07#128 = .ok .clear := by decide
theorem test_decode_present : decode 0x8#128 = .ok .present := by decide
theorem test_decode_getInfo : decode 0x80009#128 = .ok (.getInfo 8) := by decide
theorem test_decode_getColour : decode 0x50010#128 = .ok (.getColour 5) := by decide
theorem test_decode_setColour : decode 0x0000000012ABCDEF0000000000030011#128 = .ok (.setColour 3 0xABCDEF) := by decide
theorem test_decode_readPalette : decode 0x00000000000040000000000000000012#128 = .ok (.readPalette 0x4000) := by decide
theorem test_decode_writePalette : decode 0x00000000000040000000000000000013#128 = .ok (.writePalette 0x4000) := by decide
theorem test_decode_readPattern :
    decode 0x00000000000020000000000101010014#128 = .ok (.readPattern 257 1 0x2000) := by decide
theorem test_decode_writePattern :
    decode 0x00000000000030000000000400020015#128 = .ok (.writePattern 2 4 0x3000) := by decide
theorem test_decode_getPixel : decode 0x00000000000000000003FFFF00000018#128 = .ok (.getPixel (-1) 3) := by decide
theorem test_decode_setPixel : decode 0x00000000000000000000000200010019#128 = .ok (.setPixel 2 0 1) := by decide
theorem test_decode_drawSprite :
    decode 0x0000000000001300FFFD000C00010F20#128 = .ok (.drawSprite 12 (-3) 1 0x1300 true true true true) := by decide
theorem test_decode_drawSprite_hflip : -- S2
    decode 0x00000000000000000000000400010120#128 = .ok (.drawSprite 4 0 1 0 true false false false) := by decide
theorem test_decode_drawTiles :
    decode 0x00006000000050000003FFFC00001C21#128 = .ok (.drawTiles (-4) 3 0x5000 0x6000 true true true) := by decide
theorem test_decode_drawTiles_hwrap : -- T4
    decode 0x00006000000050000000000400000421#128 = .ok (.drawTiles 4 0 0x5000 0x6000 true false false) := by decide
theorem test_decode_reserved : decode 0xFFFFFFFFFFFFFFFFFFFFFFFFFFFFFF16#128 = .error (.reservedOpcode 0x16) := by decide
theorem test_decode_short : decodeBytes [0x07] = .error (.notAPacket 1) := by decide
theorem test_decode_bytes :
    decodeBytes [0x11, 0, 3, 0, 0, 0, 0, 0, 0xEF, 0xCD, 0xAB, 0, 0, 0, 0, 0] = .ok (.setColour 3 0xABCDEF) := by decide
theorem test_table_word : decodeTableWord 128 0x00080009 = some (.getInfo 8) := by decide
theorem test_table_word_short : decodeTableWord 8 0xFFFF07 = some .clear := by decide
theorem test_encode_bytes : encodeBytes (.getPixel (-1) 3) =
    [0x18, 0, 0, 0, 0xFF, 0xFF, 3, 0, 0, 0, 0, 0, 0, 0, 0, 0] := by decide
theorem test_assembler : -- R83
    assemblerText (.drawSprite (-1) 0 1 0 false false true false) = "DRAW_SPRITE -1, 0, 1, null, 0, 0, 1, 0" := by decide

/-! ### The codec and addresses (2.1, 2.2) -/

theorem test_unpack_K2 : (List.range 4).map (unpack 2 0xB4) = [2, 3, 1, 0] := by decide
theorem test_pack_K7 : pack 2 0xFF 1 0 = 0xCF ∧ pack 2 0 3 7 = 3 := by decide
theorem test_pack_K8 : pack 4 0xAB 1 5 = 0xA5 ∧ pack 4 0x12 0 0xF = 0xF2 ∧ pack 4 0x12 1 0x1F = 0x1F := by decide
theorem test_packRow_K12 : packRow 2 [0, 1, 2, 3, 3, 2, 1, 0] = [0x1B, 0xE4] := by decide
theorem test_unpackRow_K13 : unpackRow 4 [0x01, 0x23, 0x45, 0x67] = [0, 1, 2, 3, 4, 5, 6, 7] := by decide
theorem test_pixAddr_M7 : (base .ready 24 8 24 8 4).pixAddr Config.rgx 23 7 = 95 := by decide
theorem test_patAddr_M9 : (base .ready 8 8 8 8 2).patAddr 1 5 3 = 23 := by decide
theorem test_patBase_M10 : (base .ready 8 8 8 8 2).patBase 257 = 16 := by decide
theorem test_normalize_X12 : [0, 15, 16, 35, -1, -15, -16, -17, -32768].map (fun c => normalize c 16) =
    [0, 15, 0, 3, 15, 1, 16, 15, 16] := by decide

/-! ### Context control (2.7) -/

theorem test_configure_G6 :
    configAfter (execConfigure (-5) 7 9 1025 2 (-30) State.reset) = [1, 8, 8, 8, 8, 2, 1, 4, 32] ∧
      eventsAfter (execConfigure (-5) 7 9 1025 2 (-30) State.reset) = [1, 2, 3, 4, 6] := by decide
theorem test_configure_fatal_G11 :
    configAfter (configure { pixelRamBytes := 65536 } 1024 1024 1024 1024 8 60 State.reset) = [0, 0, 0, 0, 0, 0, 0, 0, 0] ∧
      eventsAfter (configure { pixelRamBytes := 65536 } 1024 1024 1024 1024 8 60 State.reset) = [102] := by decide
theorem test_teardown : configAfter (execTeardown (base .ready 64 64 64 64 4)) = [0, 0, 0, 0, 0, 0, 0, 0, 0] := by decide
theorem test_modifyEnter : (configAfter (execModifyEnter (base .ready 8 8 8 8 1))).head? = some 2 := by decide
theorem test_modifyExit_rendering : (configAfter (execModifyExit (base .rendering 8 8 8 8 1))).head? = some 3 := by decide
theorem test_renderEnter : (configAfter (execRenderEnter (base .ready 8 8 8 8 1))).head? = some 3 := by decide
theorem test_renderExit : (configAfter (execRenderExit (base .rendering 8 8 8 8 1))).head? = some 1 := by decide
theorem test_clear : (List.range 8).map (rowAfter (execClear (base .ready 8 8 8 8 1))) = List.replicate 8 [0, 0, 0, 0] := by
  decide
theorem test_present_snapshot : -- R213: 32 pixel bytes and 2 Colours
    (snapshot Config.rgx (base .ready 8 8 8 8 1)).pixels.length = 32 ∧
      (snapshot Config.rgx (base .ready 8 8 8 8 1)).palette.length = 2 := by decide
theorem test_getInfo_G2 : -- GET_INFO after G2
    (List.range 17).map (fun sel => resultOf (execGetInfo (BitVec.ofNat 16 sel)
      { base .ready 24 8 24 8 4 with frameRate := 1 })) =
      [1, 24, 8, 24, 8, 4, 16, 1, 12, 12, 32, 256, 3, 1, 96, 1, 0].map some := by decide

/-! ### Palette, patterns, pixels (2.3, 2.4) -/

theorem test_getColour_A11 :
    resultOf (execGetColour 5 { base .rendering 8 8 8 8 2 with pal := [(1, 0xFF8000)] }) = some 0xFF8000 := by decide
theorem test_setColour_A10 : palAfter (execSetColour 3 0xABCDEF (base .modifying 8 8 8 8 1)) = [(1, 0xABCDEF)] := by decide
theorem test_readPalette : -- R137
    hostAfter (execReadPalette 0x4000 { base .ready 8 8 8 8 1 with pal := [(0, 0), (1, 0x12ABCD)] }) 0x4000 8 =
      [0, 0, 0, 0, 0xCD, 0xAB, 0x12, 0] := by decide
theorem test_writePalette_A12 :
    palAfter (execWritePalette 0x4000 { base .modifying 8 8 8 8 1 with
      hostMem := cells 0x4000 [0x11, 0x22, 0x33, 0xFF, 0x44, 0x55, 0x66, 0] }) = [(0, 0x332211), (1, 0x665544)] := by
  decide
theorem test_readPattern_P3 :
    hostAfter (execReadPattern 257 1 0x2000 { base .ready 8 8 8 8 1 with
      pat := cells 8 [0x80, 0xC0, 0xE0, 0xF0, 0xF8, 0xFC, 0xFE, 0xFF] }) 0x2000 8 =
      [0x80, 0xC0, 0xE0, 0xF0, 0xF8, 0xFC, 0xFE, 0xFF] := by decide
theorem test_readPattern_wraps : -- R104 (e): the buffer runs over the top of the address space
    hostAfter (execReadPattern 1 1 0xFFFFFFFE { base .ready 8 8 8 8 1 with
      pat := cells 8 [0x80, 0xC0, 0xE0, 0xF0, 0xF8, 0xFC, 0xFE, 0xFF] }) 0 6 = [0xE0, 0xF0, 0xF8, 0xFC, 0xFE, 0xFF] := by
  decide
theorem test_writePattern_P9 :
    patAfter (execWritePattern 256 1 0x1100 { base .modifying 8 8 8 8 1 with
      hostMem := cells 0x1100 [0x80, 0xC0, 0xE0, 0xF0, 0xF8, 0xFC, 0xFE, 0xFF] }) =
      cells 0 [0x80, 0xC0, 0xE0, 0xF0, 0xF8, 0xFC, 0xFE, 0xFF] := by decide
theorem test_writePattern_P5 : -- `bits` is no depth
    resultOf (execWritePattern 1 3 0x1100 (base .modifying 8 8 8 8 1)) = some 0 := by decide
theorem test_getPixel_A5 :
    [0, 1, 2, 3].map (fun x => resultOf (execGetPixel x 1 { base .rendering 8 8 8 8 4 with
      pix := cells 4 [0x0A, 0x5C, 0, 0] })) = [some 0, some 10, some 5, some 12] := by decide
theorem test_getPixel_A3 : -- outside the screen, inside the canvas
    resultOf (execGetPixel 8 0 (base .rendering 16 16 8 8 1)) = some 0 := by decide
theorem test_setPixel_A7 :
    (rowAfter (execSetPixel 5 3 0 { base .modifying 8 8 8 8 2 with pix := cells 12 [0, 0xFF, 0, 0] }) 3) =
      [0, 0xCF, 0, 0] := by decide
theorem test_setPixel_A6 : -- depth 8, index masked
    ((rowAfter (execSetPixel 0 0 0x1FF { base .modifying 8 8 8 8 8 with pix := cells 0 (rep 8 [0]) }) 0).head?) =
      some 0xFF := by decide

/-! ### Sprites (2.5) -/

/-- The set-up of S1 to S18. -/
def spriteState : State :=
  { base .rendering 16 8 16 8 1 with
    pat := cells 0 (rep 8 [0]) ++ cells 8 [0x80, 0xC0, 0xE0, 0xF0, 0xF8, 0xFC, 0xFE, 0xFF], pix := cells 0 (rep 32 [0]) }

theorem test_sprite_S8 : -- both wraps
    (List.range 8).map (rowAfter (execDrawSprite 12 (-3) 1 0 false false true true spriteState)) =
      [[0, 0x0F, 0, 0], [0x80, 0x0F, 0, 0], [0xC0, 0x0F, 0, 0], [0xE0, 0x0F, 0, 0], [0xF0, 0x0F, 0, 0], [0, 8, 0, 0],
        [0, 0x0C, 0, 0], [0, 0x0E, 0, 0]] := by decide +kernel
theorem test_sprite_S23_S24 : -- depth 4: remapped and masked through a table; mirrored without one (row 0)
    let s := { base .rendering 8 8 8 8 4 with
      pat := cells 64 (rep 8 [0x01, 0x23, 0x45, 0x67]), pix := cells 0 (rep 32 [0]),
      hostMem := cells 0x3100 [0x0F, 0x0E, 0x0D, 0x1C, 0x0B, 0x0A, 9, 8, 7, 6, 5, 4, 3, 2, 1, 0] }
    rowAfter (execDrawSprite 0 0 2 0x3100 false false false false s) 0 = [0x0E, 0xDC, 0xBA, 0x98] ∧
      rowAfter (execDrawSprite 0 0 2 0 true false false false s) 0 = [0x76, 0x54, 0x32, 0x10] := by decide +kernel

/-! ### Tiles (2.6) -/

/-- The set-up of T1 to T6. -/
def tileState (fill : Nat) : State :=
  { base .rendering 16 8 16 8 2 with
    pat := cells 0 (rep 16 [0]) ++ cells 16 (rep 8 [0x1B, 0x1B]), pix := cells 0 (rep 32 [fill]),
    hostMem := cells 0x5000 [1, 0, 0, 0, 1, 1, 1, 0] ++ cells 0x6000 [0, 1, 2, 3, 2, 3, 0, 1] }

theorem test_tiles_T2_T16 : -- transparent; both flips of a cell (rows 0 and 7)
    (List.range 8).map (rowAfter (execDrawTiles 0 0 0x5000 0x6000 false false true (tileState 0xFF))) =
      List.replicate 8 [0xDB, 0xDB, 0x4F, 0x4F] ∧
      [0, 7].map (rowAfter (execDrawTiles 0 0 0x5300 0x6000 false false false
        { base .rendering 16 8 16 8 2 with
          pat := cells 32 ([0x40, 0] ++ rep 12 [0] ++ [0, 0x03]), pix := cells 0 (rep 32 [0]),
          hostMem := cells 0x5300 [2, 0, 0, 0, 2, 0, 1, 1] ++ cells 0x6000 [0, 1, 2, 3, 2, 3, 0, 1] })) =
      [[0x40, 0, 0xC0, 0], [0, 0x03, 0, 0x01]] := by decide +kernel
theorem test_tiles_T11 : -- canvas larger than screen, all four cells
    (List.range 8).map (rowAfter (execDrawTiles (-12) (-6) 0x5100 0x6000 true true false
      { base .rendering 16 16 8 8 2 with
        pat := cells 0 (rep 16 [0]) ++ cells 16 (rep 8 [0x1B, 0x1B]), pix := cells 0 (rep 32 [0]),
        hostMem := cells 0x5100 [1, 0, 0, 0, 1, 1, 1, 0, 0, 1, 0, 0, 0, 0, 0, 0] ++
          cells 0x6000 [0, 1, 2, 3, 2, 3, 0, 1] })) =
      List.replicate 2 [0x4E, 0x1B, 0, 0] ++ List.replicate 6 [0, 0xAA, 0, 0] := by decide +kernel

/-! ### Steps -/

theorem test_step_first_command : -- the packet placed where step takes its next command is the one it runs
    configAfter (step (State.reset.withFetchWord 128 0x001E0001000800100008001000000001)) =
      [1, 16, 8, 16, 8, 1, 30, 4, 32] := by decide
theorem test_step_reserved : -- P4 step 3
    resultOf (step (State.reset.withFetchWord 128 0)) = some 0 := by decide
theorem test_step_idle : step State.reset = .next State.reset := rfl
theorem test_core_step_reset :
    configAfter (step { base .rendering 8 8 8 8 1 with inputs := [.reset] }) = [0, 0, 0, 0, 0, 0, 0, 0, 0] := by decide

/-! ### Witnesses: for each statement with hypotheses, a state and operands that meet them -/

open Config (Params)

/-- A step or command that answers a next state is witnessed by evaluating it. -/
def answers (o : Outcome) : Bool :=
  match o with
  | .next _ => true
  | .fault _ => false
  | .refused _ => false

theorem exists_next {o : Outcome} (h : answers o = true) : ∃ t, o = .next t := by
  cases o with
  | next t => exact ⟨t, rfl⟩
  | fault r => exact absurd h (by simp [answers])
  | refused r => exact absurd h (by simp [answers])

/-- Depth 1, canvas and screen 8 by 8, every used byte of pixel RAM listed as 0: stride 4, three padding bytes a row. -/
def small (ph : Phase) : State := { base ph 8 8 8 8 1 with pix := cells 0 (rep 32 [0]) }

theorem small_inv : (small .rendering).Inv Config.rgx := by constructor <;> decide
theorem ready_inv : (base .ready 16 8 16 8 2).Inv Config.rgx := by constructor <;> decide

theorem witness_DecodeOfEncode : (Instr.drawSprite (-32768) 32767 0xFFFF 0 true false true false).wellFormed = true ∧
    (Instr.configure 32767 (-32768) 0 8 8 60).wellFormed = true := by decide
theorem witness_ReservedBitsAreIgnored :
    (0x07#128 : Packet) &&& listedBits (Packet.opcode 0x07#128) =
      0x0FEDCBA99ABCDEF0123456780001FF07#128 &&& listedBits (Packet.opcode 0x07#128) := by decide
theorem witness_StepRunsDecodedCommand : ∃ (s : State) (w : Packet) (i : Instr), s.inputs = .command w :: [.reset] ∧
    decode w = .ok i := ⟨(base .ready 8 8 8 8 1).withInputs [.command 0x8#128, .reset], _, _, rfl, rfl⟩
theorem witness_ReservedOpcodeIsNoop : ∃ s : State, s.inputs = [.command 0#128] ∧ Packet.opcode 0#128 ∉ commandOpcodes ∧
    Packet.opcode 0xFF#128 ∉ commandOpcodes ∧ Packet.opcode 0x22#128 ∉ commandOpcodes :=
  ⟨State.reset.withInputs [.command 0#128], rfl, by decide, by decide, by decide⟩
theorem witness_HostEventsStep : (∃ s : State, s.inputs = [] ∧ s.phase = .ready) ∧
    (∃ s : State, s.inputs = [.hostWrite 0xFFFFFFFF 7]) ∧
    hostAddr Config.rgx 0xFFFFFFFE ≠ (0xFFFFFFFF#32).toNat ∧ hostAddr Config.rgx 0x100000000 ≠ (0xFFFFFFFF#32).toNat ∧
    ∃ s : State, s.inputs = [.reset] :=
  ⟨⟨base .ready 8 8 8 8 1, rfl, rfl⟩, ⟨State.reset.withInputs [.hostWrite 0xFFFFFFFF 7], rfl⟩, by decide, by decide,
    ⟨State.reset.withInputs [.reset], rfl⟩⟩
theorem witness_ValuesAfterResetAndTeardown : (base .ready 8 8 8 8 1).phase = .ready := rfl
theorem witness_EveryStepKeepsInvariant : ∃ s t : State, s.Inv Config.rgx ∧ step s = .next t :=
  ⟨small .rendering, small .rendering, small_inv, rfl⟩
theorem witness_StepNeverStops : (small .rendering).Inv Config.rgx := small_inv
theorem witness_PaddingBytesKept :
    (∃ t, exec (.getPixel 7 7) (small .rendering) = .next t ∧ t.phase ≠ .unconfigured) ∧
      (small .rendering).Inv Config.rgx ∧ (small .rendering).phase ≠ .unconfigured ∧
      (small .rendering).isPadding Config.rgx 1 ∧ (small .rendering).isPadding Config.rgx 31 ∧
      (small .rendering).PaddingZero Config.rgx :=
  ⟨⟨_, rfl, by decide⟩, small_inv, by decide, by simp only [State.isPadding]; decide, by simp only [State.isPadding]; decide,
    fun a h => (by decide : ∀ a < 32, pixByte (small .rendering) a = 0) a h.1⟩
theorem witness_PhaseTransitions_configure : -- exactly fitting, one byte short in pattern RAM, one byte short in pixel RAM
    (patternNeed (clampRequests 8 8 8 8 8 60) ≤ 16384 ∧
      pixelNeed { pixelRamBytes := 64 } (clampRequests 8 8 8 8 8 60) ≤ 64) ∧
    16383 < patternNeed (clampRequests 8 8 8 8 8 60) ∧
    63 < pixelNeed { pixelRamBytes := 63 } (clampRequests 8 8 8 8 8 60) := by decide
theorem witness_PhaseTransitions : (∃ t, exec .modifyEnter (small .ready) = .next t ∧ t.phase ≠ (small .ready).phase) ∧
    State.reset.phase = .unconfigured ∧ (small .ready).phase = .ready ∧ (small .modifying).phase = .modifying ∧
    (small .rendering).phase = .rendering := ⟨⟨_, rfl, by decide⟩, rfl, rfl, rfl, rfl⟩
theorem witness_OutOfPhaseCommandIsNoop : actsIn .clear (small .modifying).phase = false ∧
    actsIn (.configure 8 8 8 8 1 1) (small .ready).phase = false ∧ actsIn (.getColour 0) State.reset.phase = false := by decide
theorem witness_SilentNoops : (1 : Word) ≠ 0 ∧ (0 : Word) = 0 ∧ (3 : Half).toNat ∉ [1, 2, 4, 8] ∧
    ((base .ready 8 8 8 8 2).depth.toNat = 2 ∧ (8 : Half).toNat ∈ [1, 4, 8]) ∧
    ((small .rendering).screenW.toNat : Int) ≤ 8 ∧ ((small .rendering).screenH.toNat : Int) ≤ 8 ∧ (-1 : Int) < 0 := by decide
theorem witness_ConfigurationIsFixed : ∃ t, exec (.setColour 0 1) (small .modifying) = .next t ∧
    opcodeOf (.setColour 0 1) ≠ 0x01 ∧ (Instr.setColour 0 1) ≠ .teardown := ⟨_, rfl, by decide, by decide⟩
theorem witness_StreamsOnlyGrow : (∃ t, exec .present (small .ready) = .next t) ∧
    eventsAfter (exec (.configure 7 8 8 8 1 30) State.reset) = [1] := ⟨exists_next rfl, by decide⟩
theorem witness_ResultIsZeroForMost : ∃ t r, exec (.configure 8 8 8 8 1 30) State.reset = .next t ∧ t.result = some r ∧
    r ≠ 0 := ⟨_, 1, rfl, rfl, by decide⟩
theorem witness_HostMemoryUse : leavesHostMemory .clear = true ∧ writesHostMemory (.readPalette 0x4000) = true ∧
    (∃ t, exec (.readPalette 0x4000) (small .ready) = .next t) ∧
    (∃ t, exec (.readPalette 0x4000) ((small .ready).withHostMem [(0x4000, 9)]) = .next t) ∧
    writesHostMemory (.writePalette 0x4000) = false ∧ ∃ t, exec (.writePalette 0x4000) (small .modifying) = .next t :=
  ⟨rfl, rfl, exists_next rfl, exists_next rfl, rfl, exists_next rfl⟩
theorem witness_PixelsIgnorePalette : opcodeOf .clear ∈ ([0x07, 0x18, 0x19, 0x20, 0x21] : List Byte) ∧
    opcodeOf (.drawTiles 0 0 1 1 true true true) ∈ ([0x07, 0x18, 0x19, 0x20, 0x21] : List Byte) := by decide
theorem witness_ConfigureSucceeds : Packet.opcode 0x001E0001000800100008001000000001#128 = 0x01 ∧
    State.reset.phase = .unconfigured := by decide
theorem witness_ConfiguredValues : State.reset.phase = .unconfigured ∧ -- each bound from both sides
    configAfter (execConfigure 7 8 9 1025 8 0 State.reset) = [1, 8, 8, 8, 8, 8, 1, 8, 64] ∧
    configAfter (execConfigure 1024 1025 1024 1017 9 61 State.reset) = [1, 1024, 1024, 1024, 1024, 8, 60, 1024, 1048576] ∧
    configAfter (execConfigure 16 16 9 7 5 60 State.reset) = [1, 16, 16, 16, 8, 8, 60, 16, 128] ∧
    configAfter (execConfigure 16 16 9 7 1 1 State.reset) = [1, 16, 16, 16, 8, 1, 1, 4, 32] := by decide
theorem witness_LegalRequestTakenAsGiven : State.reset.phase = .unconfigured ∧ legalDim 8 ∧ legalDim 1024 ∧ 8 ≤ 8 ∧
    1024 ≤ 1024 ∧ 8 ∈ [1, 2, 4, 8] ∧ 1 ≤ 1 ∧ 60 ≤ 60 := by decide
theorem witness_OneWarningPerChangedField : State.reset.phase = .unconfigured ∧
    resultOf (configure { patternRamBytes := 8192 } 8 8 8 8 8 60 State.reset) = some 0 ∧
    resultOf (configure {} 8 8 8 8 8 60 State.reset) = some 1 := by decide
theorem witness_FatalConfigure : State.reset.phase = .unconfigured ∧
    ({ patternRamBytes := 16383 } : Params).patternRamBytes < 256 * 8 * (clampRequests 8 8 8 8 8 60).d ∧
    256 * 8 * (clampRequests 8 8 8 8 8 60).d ≤ ({ pixelRamBytes := 63 } : Params).patternRamBytes ∧
    ({ pixelRamBytes := 63 } : Params).pixelRamBytes <
      alignUp ((clampRequests 8 8 8 8 8 60).sw * (clampRequests 8 8 8 8 8 60).d / 8)
        ({ pixelRamBytes := 63 } : Params).strideAlign * (clampRequests 8 8 8 8 8 60).sh := by decide
theorem witness_TeardownReleases : Packet.opcode 0x2#128 = 0x02 := by decide
theorem witness_PhaseCommandsMove : Packet.opcode 0x3#128 = 0x03 ∧ Packet.opcode 0x4#128 = 0x04 ∧
    Packet.opcode 0x5#128 = 0x05 ∧ Packet.opcode 0x6#128 = 0x06 := by decide
theorem witness_ClearZeroesPixels : Packet.opcode 0xFF07#128 = 0x07 ∧ (small .ready).phase = .ready ∧
    (small .ready).configLegal Config.rgx = true ∧ 31 < (small .ready).stride Config.rgx * (small .ready).screenH.toNat ∧
    (small .ready).stride Config.rgx * (small .ready).screenH.toNat ≤ 32 ∧ 7 < (small .ready).screenW.toNat ∧
    7 < (small .ready).screenH.toNat ∧ (small .rendering).phase ≠ .ready := by decide
theorem witness_PresentHandsOverFrame : Packet.opcode 0x8#128 = 0x08 ∧ (small .ready).phase = .ready ∧
    (small .ready).configLegal Config.rgx = true ∧ 31 < (small .ready).stride Config.rgx * (small .ready).screenH.toNat ∧
    1 < 2 ^ (small .ready).depth.toNat ∧ (small .modifying).phase ≠ .ready := by decide
theorem witness_GetInfoTable : Packet.opcode 0x100009#128 = 0x09 ∧ 16 ≤ (16 : Half).toNat ∧ 16 ≤ (0xFFFF : Half).toNat ∧
    (15 : Half).toNat < 16 ∧ State.reset.phase = .unconfigured ∧ (16 : Half) ≠ 11 ∧ (16 : Half) ≠ 15 := by decide
theorem witness_GetInfoTable_unconfigured : State.reset.Inv Config.rgx := by constructor <;> decide
theorem witness_DerivedQuantities : State.reset.phase = .unconfigured ∧ (small .ready).phase ≠ .unconfigured ∧
    (small .ready).configLegal Config.rgx = true ∧ (base .ready 1024 1024 1024 1024 8).configLegal Config.rgx = true := by
  decide
theorem witness_AddressesStayInUse : (small .ready).phase ≠ .unconfigured ∧ (small .ready).configLegal Config.rgx = true ∧
    7 < (small .ready).screenW.toNat ∧ 7 < (small .ready).screenH.toNat ∧
    (small .ready).pixAddr Config.rgx 0 7 = (small .ready).pixAddr Config.rgx 0 7 ∧
    fieldShift (small .ready).depth.toNat 0 = fieldShift (small .ready).depth.toNat 0 := by decide
theorem witness_PackThenUnpack : (4 : Nat) ∈ [1, 2, 4, 8] ∧ fieldShift 4 1 ≠ fieldShift 4 0 := by decide
theorem witness_RowCodecLaws : (8 : Nat) ∈ [1, 2, 4, 8] ∧ (1 : Nat) ∈ [1, 2, 4, 8] ∧ (List.range 8).length = 8 ∧
    ([0xB4] : List Byte).length = 1 ∧ (List.replicate 8 (0xB4 : Byte)).length = 8 * 1 := by decide
theorem witness_GetColourReturnsEntry : Packet.opcode 0x50010#128 = 0x10 ∧ (small .rendering).phase ≠ .unconfigured ∧
    (small .rendering).configLegal Config.rgx = true ∧ State.reset.phase = .unconfigured := by decide
theorem witness_SetColourWritesEntry : Packet.opcode 0x30011#128 = 0x11 ∧ (small .modifying).phase = .modifying ∧
    (small .modifying).configLegal Config.rgx = true ∧
    0 ≠ (0xFFFF : Half).toNat % 2 ^ (small .modifying).depth.toNat ∧ (small .ready).phase ≠ .modifying := by decide
theorem witness_ReadPaletteStoresWords : Packet.opcode 0x12#128 = 0x12 ∧ (small .ready).phase ≠ .unconfigured ∧
    (small .ready).configLegal Config.rgx = true ∧ (0xFFFFFFFE : Word) ≠ 0 ∧ 1 < 2 ^ (small .ready).depth.toNat ∧
    (∀ j < 4 * 2 ^ (small .ready).depth.toNat, hostAddr Config.rgx 0xFFFFFFFD ≠
      hostAddr Config.rgx ((0xFFFFFFFE : Word).toNat + j)) ∧
    (∀ j < 4 * 2 ^ (small .ready).depth.toNat, hostAddr Config.rgx 6 ≠ hostAddr Config.rgx ((0xFFFFFFFE : Word).toNat + j)) ∧
    State.reset.phase = .unconfigured := by decide
theorem witness_WritePaletteLoadsEntries : Packet.opcode 0x13#128 = 0x13 ∧ (small .modifying).phase = .modifying ∧
    (small .modifying).configLegal Config.rgx = true ∧ (0x4000 : Word) ≠ 0 ∧ 1 < 2 ^ (small .modifying).depth.toNat ∧
    2 ^ (small .modifying).depth.toNat ≤ 2 ∧ (small .ready).phase ≠ .modifying := by decide
theorem witness_PaletteRoundTrip : (small .modifying).phase = .modifying ∧
    (small .modifying).configLegal Config.rgx = true ∧ (0x4000 : Word) ≠ 0 ∧ (0x4004 : Word) ≠ 0 ∧
    1 < 2 ^ (small .modifying).depth.toNat := by decide
theorem witness_ReadPatternCopiesOut : Packet.opcode 0x14#128 = 0x14 ∧
    (small .ready).phase ≠ .unconfigured ∧ (small .ready).configLegal Config.rgx = true ∧
    (0xFFFFFFFE : Word) ≠ 0 ∧ (1 : Half).toNat = (small .ready).depth.toNat ∧ 7 < 8 * (small .ready).depth.toNat ∧
    (∀ j < 8 * (small .ready).depth.toNat, hostAddr Config.rgx 6 ≠ hostAddr Config.rgx ((0xFFFFFFFE : Word).toNat + j)) := by
  decide
theorem witness_WritePatternCopiesIn : Packet.opcode 0x15#128 = 0x15 ∧
    (small .modifying).phase = .modifying ∧
    (small .modifying).configLegal Config.rgx = true ∧ (0x4000 : Word) ≠ 0 ∧
    (1 : Half).toNat = (small .modifying).depth.toNat ∧ 7 < 8 * (small .modifying).depth.toNat ∧
    7 < (257 : Half).toNat % 256 * (8 * (small .modifying).depth.toNat) ∧
    (257 : Half).toNat % 256 * (8 * (small .modifying).depth.toNat) + 8 * (small .modifying).depth.toNat ≤ 16 := by decide
theorem witness_PatternRoundTrip : (small .modifying).phase = .modifying ∧
    (small .modifying).configLegal Config.rgx = true ∧ (0x4000 : Word) ≠ 0 ∧ (0x4004 : Word) ≠ 0 ∧
    (1 : Half).toNat = (small .modifying).depth.toNat ∧ 7 < 8 * (small .modifying).depth.toNat := by decide
theorem witness_GetPixelReturnsSample : Packet.opcode 0x18#128 = 0x18 ∧ (small .rendering).phase = .rendering ∧
    (small .rendering).configLegal Config.rgx = true ∧ 7 < (small .rendering).screenW.toNat ∧
    7 < (small .rendering).screenH.toNat ∧ ((small .rendering).screenW.toNat : Int) ≤ 8 ∧ (small .ready).phase ≠ .rendering := by
  decide
theorem witness_SetPixelWritesOneField : Packet.opcode 0x19#128 = 0x19 ∧ (small .modifying).phase = .modifying ∧
    (small .modifying).configLegal Config.rgx = true ∧ 7 < (small .modifying).screenW.toNat ∧
    7 < (small .modifying).screenH.toNat ∧ ((6 : Nat) ≠ 7 ∨ (7 : Nat) ≠ 7) ∧ (small .rendering).phase ≠ .modifying ∧
    31 ≠ 7 * (small .modifying).stride Config.rgx + 7 * (small .modifying).depth.toNat / 8 := by decide
theorem witness_SetThenGetPixel : (small .modifying).phase = .modifying ∧
    (small .modifying).configLegal Config.rgx = true ∧ 7 < (small .modifying).screenW.toNat ∧
    7 < (small .modifying).screenH.toNat := by decide
theorem witness_FrameBeginShowsZero : (small .ready).phase = .ready ∧ (small .ready).configLegal Config.rgx = true := by decide
theorem witness_NormalizeKeepsResidue : 0 < 16 ∧ (0 : Int) ≤ 0 ∧ ((-1 : Int) < 0 ∧ (-1 : Int) % (16 : Nat) ≠ 0) ∧
    ((-16 : Int) < 0 ∧ (-16 : Int) % (16 : Nat) = 0) := by decide
theorem witness_DrawSpritePixels : Packet.opcode 0x10420#128 = 0x20 ∧
    spriteState.phase = .rendering ∧ spriteState.configLegal Config.rgx = true ∧
    dest 12 0 true spriteState.canvasW.toNat spriteState.screenW.toNat = some 12 ∧
    dest (-3) 3 false spriteState.canvasH.toNat spriteState.screenH.toNat = some 0 ∧
    patSample spriteState (1 : Half).toNat 0 3 ≠ 0 ∧ patSample spriteState (1 : Half).toNat 7 3 = 0 ∧
    11 < spriteState.screenW.toNat ∧ 0 < spriteState.screenH.toNat := by decide
theorem witness_DrawTilesPixels : Packet.opcode 0x1021#128 = 0x21 ∧
    (tileState 0).phase = .rendering ∧ (tileState 0).configLegal Config.rgx = true ∧
    (0x5000 : Word) ≠ 0 ∧ (0x6000 : Word) ≠ 0 ∧ 15 < (tileState 0).canvasW.toNat ∧ 7 < (tileState 0).canvasH.toNat ∧
    dest 4 15 true (tileState 0).canvasW.toNat (tileState 0).screenW.toNat = some 3 ∧
    dest 0 7 true (tileState 0).canvasH.toNat (tileState 0).screenH.toNat = some 7 ∧
    (tileAt Config.rgx (tileState 0) 0x5000 1 0).hflip = true ∧ patSample (tileState 0) 1 0 7 = 0 := by decide
theorem witness_ZeroSamplesAreTransparent : spriteState.phase = .rendering ∧ spriteState.configLegal Config.rgx = true ∧
    dest 0 7 true spriteState.canvasW.toNat spriteState.screenW.toNat = some 7 ∧
    dest 0 0 true spriteState.canvasH.toNat spriteState.screenH.toNat = some 0 ∧
    patSample spriteState (1 : Half).toNat 7 0 = 0 ∧
    ∀ c r, c < 8 → r < 8 → patSample spriteState (0 : Half).toNat c r = 0 :=
  ⟨rfl, by decide, by decide, by decide, by decide, fun c r hc hr =>
    (by decide : ∀ c < 8, ∀ r < 8, patSample spriteState (0 : Half).toNat c r = 0) c hc r hr⟩
theorem witness_BlitGuards : (small .modifying).phase ≠ .rendering ∧ ((small .rendering).phase ≠ .rendering ∨
    (0 : Word) = 0 ∨ (1 : Word) = 0) := by decide
theorem witness_DoubleFlipMirrorsPattern : spriteState.phase = .rendering ∧ spriteState.configLegal Config.rgx = true ∧
    (∀ c r, c < 8 → r < 8 →
      patSample (spriteState.withPat (cells 8 [0xFF, 0x7F, 0x3F, 0x1F, 0x0F, 7, 3, 1])) (1 : Half).toNat c r =
        patSample spriteState (1 : Half).toNat (7 - c) (7 - r)) ∧
    ∃ t, exec (.drawSprite 4 0 1 0 true true true false) spriteState = .next t :=
  ⟨rfl, by decide, fun c r hc hr =>
    (by decide : ∀ c < 8, ∀ r < 8,
      patSample (spriteState.withPat (cells 8 [0xFF, 0x7F, 0x3F, 0x1F, 0x0F, 7, 3, 1])) (1 : Half).toNat c r =
        patSample spriteState (1 : Half).toNat (7 - c) (7 - r)) c hc r hr, exists_next (by decide)⟩
theorem witness_WrapAndClipAtTheEdge : (small .ready).phase ≠ .unconfigured ∧
    (small .ready).configLegal Config.rgx = true := by decide
theorem witness_WrappedTilesCoverTheScreen : (tileState 0).phase = .rendering ∧
    (tileState 0).configLegal Config.rgx = true ∧ (0x5000 : Word) ≠ 0 ∧ (0x6000 : Word) ≠ 0 ∧
    (∃ t, exec (.drawTiles (-4) 3 0x5000 0x6000 true true false) (tileState 0) = .next t) ∧
    15 < (tileState 0).screenW.toNat ∧ 7 < (tileState 0).screenH.toNat :=
  ⟨rfl, by decide, by decide, by decide, exists_next (by decide), by decide, by decide⟩

end Sys2Proof.Tests
end

section
/-!
SUPPORT. Proofs of the statements about steps and their scope (spec 00_scope.md R2, 20_memory.md R58).
-/

namespace Sys2Proof.Machine

/-- Of the two ways a delivered packet can be served, a decoded packet takes the command's (R58). -/
theorem step_decoded {s : State} {w : Packet} {rest : List HostEvent} {i : Instr}
    (hin : s.inputs = .command w :: rest) (hdec : decode w = .ok i) : step s = exec i (s.withInputs rest) := by
  rw [step_command hin, hdec]

/-- Settles O6: the rule for a delivered packet, at a packet that decodes. -/
theorem stepRunsDecodedCommand : Obligations.StepRunsDecodedCommand :=
  fun _ _ _ _ hin hdec => step_decoded hin hdec

end Sys2Proof.Machine
end

section
/-!
SUPPORT. What any command can do, said once for the whole command set: the state it answers is one of the eleven forms of `Effect`.
Before it, what the writes of a command make of a memory (spec 20_memory.md R40, R41) and of pixel RAM (R46).
-/

namespace Sys2Proof.Machine

open Config (Params)

/-! ### Writes to addresses in use -/

/-- Going from `m` to `m'` keeps the canonical form and the bound `n` on the addresses listed. -/
structure Memory.KeepsForm {w : Nat} (n : Nat) (m m' : Memory w) : Prop where
  wf : Memory.wf m → Memory.wf m'
  below : Memory.below m n → Memory.below m' n

theorem Memory.keepsForm_write {w n a : Nat} (m : Memory w) (v : BitVec w) (ha : a < n) :
    Memory.KeepsForm n m (Memory.write m a v) :=
  ⟨fun h => Memory.wf_write h a v, fun h => Memory.below_write h ha v⟩

theorem Memory.keepsForm_writeList {w n a : Nat} (m : Memory w) (vs : List (BitVec w)) (ha : a + vs.length ≤ n) :
    Memory.KeepsForm n m (Memory.writeList m a vs) :=
  ⟨fun h => Memory.wf_writeList vs h a, fun h => Memory.below_writeList vs h ha⟩

theorem Memory.keepsForm_fill {w : Nat} (n : Nat) (m : Memory w) (v : BitVec w) :
    Memory.KeepsForm n m (Memory.fill m n v) :=
  ⟨fun h => Memory.wf_fill h n v, fun h => Memory.below_fill h v⟩

theorem keepsForm_hostWriteBytes (p : Params) (m : Memory 8) (a : Nat) (bs : List Byte) :
    Memory.KeepsForm (2 ^ p.hostAddrBits) m (hostWriteBytes p m a bs) :=
  ⟨fun h => wf_hostWriteBytes p bs h a, fun h => below_hostWriteBytes p bs h a⟩

/-- A masked colour index names a palette entry in use (R18, R75). -/
theorem maskColour_lt {s : State} (h : s.phase ≠ .unconfigured) (v : Nat) : s.maskColour v < s.colourCount := by
  have hpos : 0 < s.colourCount := by simp [State.colourCount, h]
  have hle : s.maskColour v ≤ s.colourCount - 1 := Nat.and_le_right
  omega

/-- The bytes of a pattern lie in pattern RAM in use (R41, R49). -/
theorem patBase_add_le {s : State} (h : s.phase ≠ .unconfigured) (index : Nat) :
    s.patBase index + 8 * s.depth.toNat ≤ s.patternBytes := by
  have hle : patternNumber index ≤ 255 := Nat.and_le_right
  simp only [State.patBase, State.patternBytes, State.bytesPerPattern, if_neg h]
  nlinarith

/-! ### Pixel writes -/

/-- The contents of pixel RAM that `PixPut` at pixels of the screen can make of that of `s` (R46). -/
inductive Drawn (p : Params) (s : State) : Memory 8 → Prop where
  | start : Drawn p s s.pix
  | put {m : Memory 8} {x y : Nat} (h : Drawn p s m) (hx : x < s.screenW.toNat) (hy : y < s.screenH.toNat) (v : Nat) :
    Drawn p s (pixPutIn p s m x y v)

/-- Pixels of the screen lie in bytes in use, so drawing keeps the form of pixel RAM (R41, R46). -/
theorem Drawn.keepsForm {p : Params} {s : State} {m : Memory 8} (h : Drawn p s m) (ha : 0 < p.strideAlign)
    (hs : s.phase ≠ .unconfigured) (hl : s.configLegal p = true) : Memory.KeepsForm (s.pixelBytes p) s.pix m := by
  induction h with
  | start => exact ⟨id, id⟩
  | put _ hx hy v ih =>
    exact ⟨fun hw => wf_pixPutIn p s (ih.wf hw) _ _ v,
      fun hb => below_pixPutIn (ih.below hb) (pixAddr_lt ha hs hl hx hy) v⟩

/-- Drawing leaves every byte that holds no pixel of the screen (R46). -/
theorem Drawn.pixByteIn_other {p : Params} {s : State} {m : Memory 8} (h : Drawn p s m) {a : Nat}
    (ha : ∀ x y, x < s.screenW.toNat → y < s.screenH.toNat → a ≠ s.pixAddr p x y) :
    pixByteIn s.ramEpoch m a = pixByte s a := by
  induction h with
  | start => rfl
  | put _ hx hy v ih => rw [pixByteIn_pixPutIn, if_neg (ha _ _ hx hy), ih]

/-- An index a blit loop draws has its destination on the screen (R162). -/
theorem axisStep_put_lt {o : Int} {wrap : Bool} {canvas screen k d : Nat} (hc : 0 < canvas)
    (h : axisStep o wrap canvas screen k = .put d) : d < screen :=
  dest_lt_screen hc ((axisStep_put_iff ..).1 h)

/-- The two loops of a blit draw, if the plot at their destinations does (R160, R180). -/
theorem drawn_axisLoops {p : Params} {s : State} (hl : s.configLegal p = true) (ox oy : Int) (wx wy : Bool)
    (cols rows : List Nat) {plot : Nat → Nat → Nat → Nat → Memory 8 → Memory 8}
    (hplot : ∀ k j dx dy m, dx < s.screenW.toNat → dy < s.screenH.toNat → Drawn p s m → Drawn p s (plot k j dx dy m)) :
    Drawn p s (axisLoop (axisStep oy wy s.canvasH.toNat s.screenH.toNat)
      (fun j dy m => axisLoop (axisStep ox wx s.canvasW.toNat s.screenW.toNat) (fun k dx m => plot k j dx dy m) cols m)
      rows s.pix) := by
  obtain ⟨⟨-, hw, -⟩, ⟨-, hh, -⟩, -⟩ := configLegal_iff.1 hl
  refine axisLoop_keeps .start fun j _ dy m hj hm => axisLoop_keeps hm fun k _ dx m hk hm => ?_
  exact hplot k j dx dy m (axisStep_put_lt (by omega) hk) (axisStep_put_lt (by omega) hj) hm

theorem drawn_spriteLoops {p : Params} {s : State} (hl : s.configLegal p = true) (a : SpriteArgs) :
    Drawn p s (spriteLoops p s a) := by
  refine drawn_axisLoops hl _ _ _ _ _ _ fun sx sy dx dy m hx hy hm => ?_
  unfold spritePlot
  split
  · exact hm
  · exact hm.put hx hy _

theorem drawn_gridLoops {p : Params} {s : State} (hl : s.configLegal p = true) (a : TileArgs) :
    Drawn p s (gridLoops p s a) := by
  refine drawn_axisLoops hl _ _ _ _ _ _ fun col row dx dy m hx hy hm => ?_
  unfold gridPlot
  split
  · exact hm
  · exact hm.put hx hy _

/-! ### The effect of a command -/

/-- The transitions of the four phase commands (R207, R208, R210, R211). -/
inductive PhaseMove : Instr → Phase → Phase → Prop where
  | modifyEnter : PhaseMove .modifyEnter .ready .modifying
  | modifyExit : PhaseMove .modifyExit .modifying .ready
  | renderEnter : PhaseMove .renderEnter .ready .rendering
  | renderExit : PhaseMove .renderExit .rendering .ready

theorem PhaseMove.configured {i : Instr} {a b : Phase} (h : PhaseMove i a b) : a ≠ .unconfigured ∧ b ≠ .unconfigured := by
  cases h <;> decide

/-- The states that command `i` can answer from `s`, by the part of the state it changes. -/
inductive Effect (i : Instr) (s : State) : State → Prop where
  /-- Nothing but the result. -/
  | answer (r : Word) : Effect i s (s.withResult r)
  /-- CONFIGURE ends in a fatal error (R245). -/
  | fatal (hop : opcodeOf i = 0x01) (hph : s.phase = .unconfigured) (es : List OutputEvent) :
    Effect i s ((((s.emit es).withConfig 0 0 0 0 0 0).withPhase .unconfigured).withResult 0)
  /-- CONFIGURE takes its clamped requests, which fit the RAMs (R200, R205). -/
  | configured (hop : opcodeOf i = 0x01) (hph : s.phase = .unconfigured) (es : List OutputEvent)
    (cw ch sw sh bpp fr : Int) {c : Clamped} (hc : c = clampRequests cw ch sw sh bpp fr)
    (hpat : patternNeed c ≤ Config.rgx.patternRamBytes) (hpix : pixelNeed Config.rgx c ≤ Config.rgx.pixelRamBytes) :
    Effect i s ((((s.emit es).withConfig c.cw c.ch c.sw c.sh c.d c.fr).forgetRams.withPhase .ready).withResult 1)
  /-- TEARDOWN (R206). -/
  | released (hi : i = .teardown) (hph : s.phase = .ready) :
    Effect i s (((s.withConfig 0 0 0 0 0 0).forgetRams.withPhase .unconfigured).withResult 0)
  /-- A phase command moves the phase. -/
  | moved {b : Phase} (h : PhaseMove i s.phase b) : Effect i s ((s.withPhase b).withResult 0)
  /-- PRESENT hands over a frame (R213). -/
  | presented (hi : i = .present) (hph : s.phase = .ready) (f : Snapshot) : Effect i s ((s.emitFrame f).withResult 0)
  /-- CLEAR (R209). -/
  | cleared (hi : i = .clear) (hph : s.phase = .ready) :
    Effect i s ((s.withPix (Memory.fill s.pix (s.pixelBytes Config.rgx) 0)).withResult 0)
  /-- Palette entries in use are written (R135, R138). -/
  | palette {m : Memory 24} (hm : Memory.KeepsForm s.colourCount s.pal m) : Effect i s ((s.withPal m).withResult 0)
  /-- Bytes of pattern RAM in use are written (R105). -/
  | pattern {m : Memory 8} (hm : Memory.KeepsForm s.patternBytes s.pat m) : Effect i s ((s.withPat m).withResult 0)
  /-- Host memory is written (R103, R136). -/
  | host {m : Memory 8} (hm : Memory.KeepsForm (2 ^ Config.rgx.hostAddrBits) s.hostMem m) :
    Effect i s ((s.withHostMem m).withResult 0)
  /-- Pixels of the screen are written (R132, R160, R180). -/
  | drawn (hph : s.phase ≠ .unconfigured) {m : Memory 8} (hm : Drawn Config.rgx s m) :
    Effect i s ((s.withPix m).withResult 0)

variable {s t : State}

/-- Warnings and then the error are one list of events (R204, R245). -/
theorem State.emit_emit (es es' : List OutputEvent) : (s.emit es).emit es' = s.emit (es ++ es') := by
  simp only [State.emit, List.append_assoc]

theorem effect_of_raiseFatal {i : Instr} {code : ErrorCode} {es : List OutputEvent} (hop : opcodeOf i = 0x01)
    (hph : s.phase = .unconfigured) (h : raiseFatal code (s.emit es) = .next t) : Effect i s t := by
  rw [raiseFatal_next, State.emit_emit] at h
  exact h ▸ .fatal hop hph _

theorem effect_of_configure {cw ch sw sh bpp fr : Int} {i : Instr} (hop : opcodeOf i = 0x01)
    (h : configure Config.rgx cw ch sw sh bpp fr s = .next t) : Effect i s t := by
  rcases configure_next.1 h with ⟨-, rfl⟩ | ⟨hph, h⟩
  · exact .answer 0
  rcases takeConfig_next.1 h with ⟨-, h⟩ | ⟨-, -, h⟩ | ⟨hpat, hpix, rfl⟩
  · exact effect_of_raiseFatal hop hph h
  · exact effect_of_raiseFatal hop hph h
  · exact .configured hop hph _ cw ch sw sh bpp fr rfl hpat hpix

theorem effect_of_movePhase {i : Instr} {a b : Phase} (hm : PhaseMove i a b) (h : movePhase a b s = .next t) :
    Effect i s t := by
  rcases movePhase_next.1 h with ⟨rfl, rfl⟩ | ⟨-, rfl⟩
  · exact .moved hm
  · exact .answer 0

/-- What a command can do: every state it answers is one of the forms of `Effect`. -/
theorem exec_effect {i : Instr} (h : exec i s = .next t) : Effect i s t := by
  cases i with
  | configure cw ch sw sh bpp fr => exact effect_of_configure rfl h
  | teardown =>
    rcases execTeardown_next.1 h with ⟨hph, rfl⟩ | ⟨-, rfl⟩
    · exact .released rfl hph
    · exact .answer 0
  | modifyEnter => exact effect_of_movePhase .modifyEnter h
  | modifyExit => exact effect_of_movePhase .modifyExit h
  | renderEnter => exact effect_of_movePhase .renderEnter h
  | renderExit => exact effect_of_movePhase .renderExit h
  | clear =>
    rcases clear_next.1 h with ⟨hph, -, rfl⟩ | ⟨-, rfl⟩
    · exact .cleared rfl hph
    · exact .answer 0
  | present =>
    rcases present_next.1 h with ⟨hph, -, rfl⟩ | ⟨-, rfl⟩
    · exact .presented rfl hph _
    · exact .answer 0
  | getInfo sel =>
    obtain rfl := execGetInfo_next.1 h
    exact .answer _
  | getColour index => rcases getColour_next.1 h with ⟨-, rfl⟩ | ⟨-, -, rfl⟩ <;> exact .answer _
  | setColour index colour =>
    rcases setColour_next.1 h with ⟨hph, -, rfl⟩ | ⟨-, rfl⟩
    · exact .palette (Memory.keepsForm_write _ _ (maskColour_lt (by simp [hph]) _))
    · exact .answer 0
  | readPalette out =>
    rcases readPalette_next.1 h with ⟨-, rfl⟩ | ⟨-, -, -, rfl⟩
    · exact .answer 0
    · exact .host (keepsForm_hostWriteBytes _ _ _ _)
  | writePalette src =>
    rcases writePalette_next.1 h with ⟨-, rfl⟩ | ⟨-, -, -, rfl⟩
    · exact .answer 0
    · exact .palette (Memory.keepsForm_writeList _ _ (by simp [paletteAt]))
  | readPattern index bits out =>
    rcases readPattern_next.1 h with ⟨-, rfl⟩ | ⟨-, -, -, -, rfl⟩
    · exact .answer 0
    · exact .host (keepsForm_hostWriteBytes _ _ _ _)
  | writePattern index bits src =>
    rcases writePattern_next.1 h with ⟨-, rfl⟩ | ⟨hph, -, -, -, rfl⟩
    · exact .answer 0
    · exact .pattern (Memory.keepsForm_writeList _ _ (by simpa [hostRead] using patBase_add_le (by simp [hph]) _))
  | getPixel x y => rcases getPixel_next.1 h with ⟨-, -, -, rfl⟩ | ⟨-, rfl⟩ <;> exact .answer _
  | setPixel x y index =>
    rcases setPixel_next.1 h with ⟨hph, ⟨hx, hx', hy, hy'⟩, -, rfl⟩ | ⟨-, rfl⟩
    · exact .drawn (by simp [hph, gatePhase]) (Drawn.start.put (by omega) (by omega) _)
    · exact .answer 0
  | drawSprite x y pattern palette hflip vflip hwrap vwrap =>
    rcases drawSprite_next.1 h with ⟨hph, hl, rfl⟩ | ⟨-, rfl⟩
    · exact .drawn (by simp [hph]) (drawn_spriteLoops hl _)
    · exact .answer 0
  | drawTiles x y tiles palettes hwrap vwrap transparent =>
    rcases drawTiles_next.1 h with ⟨-, rfl⟩ | ⟨hph, -, -, hl, rfl⟩
    · exact .answer 0
    · exact .drawn (by simp [hph]) (drawn_gridLoops hl _)

end Sys2Proof.Machine
end

section
/-!
SUPPORT. Proofs of the statements about the invariant, the values after reset and the derived quantities (spec 10_state.md R14 to
R20, R32).
-/

namespace Sys2Proof.Machine

open Config (Params)

/-! ### The values CONFIGURE takes are legal (R201 to R203) -/

theorem snapDim_legal (v : Int) : legalDim (snapDim v) := by
  unfold snapDim ceil8 alignUp
  split_ifs <;> omega

theorem legalDim_min {m n : Nat} (hm : legalDim m) (hn : legalDim n) : legalDim (min m n) := by
  rcases min_choice m n with h | h <;> rwa [h]

theorem snapDepth_mem (b : Int) : snapDepth b ∈ [1, 2, 4, 8] := by
  unfold snapDepth
  split_ifs <;> decide

theorem clampRate_bounds (r : Int) : 1 ≤ clampRate r ∧ clampRate r ≤ 60 := by
  unfold clampRate
  omega

/-- A dimension, a depth and a frame rate that CONFIGURE takes fit their registers (R14 to R17). -/
theorem toNat_ofNat_of_legalDim {n : Nat} (h : legalDim n) : (BitVec.ofNat 11 n).toNat = n :=
  (BitVec.toNat_ofNat ..).trans (Nat.mod_eq_of_lt (by omega))

theorem toNat_ofNat_snapDepth (b : Int) : (BitVec.ofNat 4 (snapDepth b)).toNat = snapDepth b := by
  rcases depth_cases (snapDepth_mem b) with h | h | h | h <;> rw [h] <;> rfl

theorem toNat_ofNat_clampRate (r : Int) : (BitVec.ofNat 6 (clampRate r)).toNat = clampRate r := by
  have := clampRate_bounds r
  exact (BitVec.toNat_ofNat ..).trans (Nat.mod_eq_of_lt (by omega))

/-- Clamped requests that fit the RAMs make a legal configuration (R200, R205). -/
theorem configLegal_of_clampRequests {p : Params} {c : Clamped} (s : State) (cw ch sw sh bpp fr : Int)
    (hc : c = clampRequests cw ch sw sh bpp fr) (hpat : patternNeed c ≤ p.patternRamBytes)
    (hpix : pixelNeed p c ≤ p.pixelRamBytes) :
    ((s.withConfig c.cw c.ch c.sw c.sh c.d c.fr).withPhase .ready).configLegal p = true := by
  subst hc
  have hsw := legalDim_min (snapDim_legal sw) (snapDim_legal cw)
  have hsh := legalDim_min (snapDim_legal sh) (snapDim_legal ch)
  obtain ⟨hlo, hhi⟩ := clampRate_bounds fr
  simp only [patternNeed, pixelNeed, clampRequests] at hpat hpix
  simp only [configLegal_iff, State.patternBytes, State.bytesPerPattern, State.pixelBytes, State.stride, State.rowBytes,
    State.withPhase_phase, State.withPhase_canvasW, State.withPhase_canvasH, State.withPhase_screenW,
    State.withPhase_screenH, State.withPhase_depth, State.withPhase_frameRate, State.withConfig_canvasW,
    State.withConfig_canvasH, State.withConfig_screenW, State.withConfig_screenH, State.withConfig_depth,
    State.withConfig_frameRate, clampRequests, toNat_ofNat_of_legalDim (snapDim_legal _), toNat_ofNat_of_legalDim hsw,
    toNat_ofNat_of_legalDim hsh, toNat_ofNat_snapDepth, toNat_ofNat_clampRate, reduceCtorEq, if_false]
  exact ⟨snapDim_legal cw, snapDim_legal ch, hsw, hsh, min_le_right .., min_le_right .., snapDepth_mem bpp, hlo, hhi,
    Nat.mul_assoc .. ▸ hpat, hpix⟩

/-! ### Moving the phase between configured phases changes no derived quantity -/

section WithPhase

variable {s : State} {b : Phase} (hs : s.phase ≠ .unconfigured) (hb : b ≠ .unconfigured)

include hs hb

theorem colourCount_withPhase : (s.withPhase b).colourCount = s.colourCount := by
  simp [State.colourCount, hs, hb]

theorem patternBytes_withPhase : (s.withPhase b).patternBytes = s.patternBytes := by
  simp [State.patternBytes, State.bytesPerPattern, hs, hb]

theorem rowBytes_withPhase : (s.withPhase b).rowBytes = s.rowBytes := by
  simp [State.rowBytes, hs, hb]

theorem stride_withPhase (p : Params) : (s.withPhase b).stride p = s.stride p := by
  simp only [State.stride, rowBytes_withPhase hs hb]

theorem pixelBytes_withPhase (p : Params) : (s.withPhase b).pixelBytes p = s.pixelBytes p := by
  simp only [State.pixelBytes, stride_withPhase hs hb, State.withPhase_screenH]

theorem configLegal_withPhase (p : Params) : (s.withPhase b).configLegal p = s.configLegal p := by
  rw [Bool.eq_iff_iff, configLegal_iff, configLegal_iff, patternBytes_withPhase hs hb, pixelBytes_withPhase hs hb]
  rfl

end WithPhase

/-! ### The invariant: at reset, and under each kind of update -/

variable {p : Params} {s t : State}

/-- Right after reset the registers are 0 and nothing is listed, so the invariant holds (R32). -/
theorem reset_inv (p : Params) : State.reset.Inv p where
  unconfigured_zero _ := ⟨rfl, rfl, rfl, rfl, rfl, rfl⟩
  configured_legal h := absurd rfl h
  pal_wf := Memory.wf_nil
  pat_wf := Memory.wf_nil
  pix_wf := Memory.wf_nil
  host_wf := Memory.wf_nil
  pal_in_use := Memory.below_nil _
  pat_in_use := Memory.below_nil _
  pix_in_use := Memory.below_nil _
  host_in_space := Memory.below_nil _

/-- Settles O10. -/
theorem invariantHoldsAtReset : Obligations.InvariantHoldsAtReset := reset_inv Config.rgx

namespace State.Inv

/-- The invariant does not speak of the streams, the command channel, the result and the RAM period. -/
theorem of_rest (h : s.Inv p) (o : List OutputEvent) (f : List Snapshot) (l : List HostEvent) (r : Option Word) (e : Nat) :
    ({ s with output := o, presenter := f, inputs := l, result := r, ramEpoch := e } : State).Inv p := { h with }

theorem withInputs (h : s.Inv p) (l : List HostEvent) : (s.withInputs l).Inv p := h.of_rest ..
theorem withResult (h : s.Inv p) (r : Word) : (s.withResult r).Inv p := h.of_rest ..
theorem emit (h : s.Inv p) (es : List OutputEvent) : (s.emit es).Inv p := h.of_rest ..
theorem emitFrame (h : s.Inv p) (f : Snapshot) : (s.emitFrame f).Inv p := h.of_rest ..

theorem withPal (h : s.Inv p) {m : Memory 24} (hm : Memory.KeepsForm s.colourCount s.pal m) : (s.withPal m).Inv p :=
  { h with pal_wf := hm.wf h.pal_wf, pal_in_use := hm.below h.pal_in_use }

theorem withPat (h : s.Inv p) {m : Memory 8} (hm : Memory.KeepsForm s.patternBytes s.pat m) : (s.withPat m).Inv p :=
  { h with pat_wf := hm.wf h.pat_wf, pat_in_use := hm.below h.pat_in_use }

theorem withPix (h : s.Inv p) {m : Memory 8} (hm : Memory.KeepsForm (s.pixelBytes p) s.pix m) : (s.withPix m).Inv p :=
  { h with pix_wf := hm.wf h.pix_wf, pix_in_use := hm.below h.pix_in_use }

theorem withHostMem (h : s.Inv p) {m : Memory 8} (hm : Memory.KeepsForm (2 ^ p.hostAddrBits) s.hostMem m) :
    (s.withHostMem m).Inv p :=
  { h with host_wf := hm.wf h.host_wf, host_in_space := hm.below h.host_in_space }

theorem withPhase (h : s.Inv p) {b : Phase} (hs : s.phase ≠ .unconfigured) (hb : b ≠ .unconfigured) :
    (s.withPhase b).Inv p :=
  { h with
    unconfigured_zero := fun hu => absurd hu hb
    configured_legal := fun _ => configLegal_withPhase hs hb p ▸ h.configured_legal hs
    pal_in_use := colourCount_withPhase hs hb ▸ h.pal_in_use
    pat_in_use := patternBytes_withPhase hs hb ▸ h.pat_in_use
    pix_in_use := pixelBytes_withPhase hs hb p ▸ h.pix_in_use }

/-- In Unconfigured the registers are 0 already, so writing 0 to them changes nothing. -/
theorem withConfig_zero (h : s.Inv p) (hs : s.phase = .unconfigured) :
    (s.withConfig 0 0 0 0 0 0).withPhase .unconfigured = s := by
  obtain ⟨hcw, hch, hsw, hsh, hd, hfr⟩ := h.unconfigured_zero hs
  cases s
  simp_all [State.withConfig, State.withPhase]

/-- Releasing the configuration gives the registers and the RAM lists of reset (R206). -/
theorem released (h : s.Inv p) : ((s.withConfig 0 0 0 0 0 0).forgetRams.withPhase .unconfigured).Inv p :=
  { reset_inv p with host_wf := h.host_wf, host_in_space := h.host_in_space }

theorem resetBlock (h : s.Inv p) : (resetBlock s).Inv p :=
  { reset_inv p with host_wf := h.host_wf, host_in_space := h.host_in_space }

/-- A legal configuration with nothing listed in the RAMs (R200). -/
theorem configured (h : s.Inv p) (cw ch sw sh d fr : Nat)
    (hl : ((s.withConfig cw ch sw sh d fr).withPhase .ready).configLegal p = true) :
    ((s.withConfig cw ch sw sh d fr).forgetRams.withPhase .ready).Inv p where
  unconfigured_zero hu := nomatch hu
  configured_legal _ := hl
  pal_wf := Memory.wf_nil
  pat_wf := Memory.wf_nil
  pix_wf := Memory.wf_nil
  host_wf := h.host_wf
  pal_in_use := Memory.below_nil _
  pat_in_use := Memory.below_nil _
  pix_in_use := Memory.below_nil _
  host_in_space := h.host_in_space

theorem hostStore (h : s.Inv Config.rgx) (a : Word) (v : Byte) : (hostStore a v s).Inv Config.rgx :=
  h.withHostMem (Memory.keepsForm_write _ _ a.isLt)

/-! ### The invariant under a command and under a step -/

theorem of_effect {i : Instr} (h : s.Inv Config.rgx) (he : Effect i s t) : t.Inv Config.rgx := by
  cases he with
  | answer r => exact h.withResult r
  | fatal _ hph es =>
    rw [(h.emit es).withConfig_zero hph]
    exact (h.emit es).withResult 0
  | configured _ _ es cw ch sw sh bpp fr hc hpat hpix =>
    exact ((h.emit es).configured _ _ _ _ _ _
      (configLegal_of_clampRequests _ cw ch sw sh bpp fr hc hpat hpix)).withResult 1
  | released => exact h.released.withResult 0
  | moved hm => exact (h.withPhase hm.configured.1 hm.configured.2).withResult 0
  | presented _ _ f => exact (h.emitFrame f).withResult 0
  | cleared => exact (h.withPix (Memory.keepsForm_fill ..)).withResult 0
  | palette hm => exact (h.withPal hm).withResult 0
  | pattern hm => exact (h.withPat hm).withResult 0
  | host hm => exact (h.withHostMem hm).withResult 0
  | drawn hph hm => exact (h.withPix (hm.keepsForm (by decide) hph (h.configured_legal hph))).withResult 0

theorem of_exec {i : Instr} (h : s.Inv Config.rgx) (he : exec i s = .next t) : t.Inv Config.rgx := h.of_effect (exec_effect he)

end State.Inv

/-- A delivered packet keeps the invariant, whether it decodes or not (R77). -/
theorem step_command_keeps_inv {w : Packet} {rest : List HostEvent} (h : s.Inv Config.rgx)
    (hin : s.inputs = .command w :: rest) (hstep : step s = .next t) : t.Inv Config.rgx := by
  rw [step_command hin] at hstep
  cases hdec : decode w with
  | ok i =>
    rw [hdec] at hstep
    exact (h.withInputs rest).of_exec hstep
  | error e =>
    rw [hdec] at hstep
    obtain rfl := noop_next.1 hstep
    exact (h.withInputs rest).withResult 0

theorem step_keeps_inv (h : s.Inv Config.rgx) (hstep : step s = .next t) : t.Inv Config.rgx := by
  cases hin : s.inputs with
  | nil =>
    obtain rfl : s = t := by simpa [step_idle hin] using hstep
    exact h
  | cons e rest =>
    cases e with
    | command w => exact step_command_keeps_inv h hin hstep
    | reset =>
      obtain rfl : resetBlock (s.withInputs rest) = t := by simpa [step_reset hin] using hstep
      exact (h.withInputs rest).resetBlock
    | hostWrite a v =>
      obtain rfl : hostStore a v (s.withInputs rest) = t := by simpa [step_hostWrite hin] using hstep
      exact (h.withInputs rest).hostStore a v

/-- Settles O11, by the next host event and, for a command, by its effect. -/
theorem everyStepKeepsInvariant : Obligations.EveryStepKeepsInvariant := fun _ _ => step_keeps_inv

/-- Settles O9: the values of `State.reset`, and the one effect TEARDOWN has in Ready. -/
theorem valuesAfterResetAndTeardown : Obligations.ValuesAfterResetAndTeardown := by
  refine ⟨by decide, fun s hph => ⟨_, execTeardown_next.2 (.inl ⟨hph, rfl⟩), ?_⟩⟩
  simp

/-! ### Derived quantities -/

/-- The screen width is a multiple of 8, so a row's pixels fill whole bytes (R20). -/
theorem rowBytes_mul_eight (hs : s.phase ≠ .unconfigured) (hl : s.configLegal p = true) :
    s.rowBytes * 8 = s.screenW.toNat * s.depth.toNat := by
  obtain ⟨-, -, ⟨hw, -⟩, -⟩ := configLegal_iff.1 hl
  rw [State.rowBytes, if_neg hs]
  exact Nat.div_mul_cancel ((Nat.dvd_of_mod_eq_zero hw).mul_right _)

/-- The colour count at each legal depth (R18). -/
theorem two_pow_depth_mem {d : Nat} (h : d ∈ [1, 2, 4, 8]) : 2 ^ d ∈ [2, 4, 16, 256] := by
  rcases depth_cases h with rfl | rfl | rfl | rfl <;> decide

/-- Settles O32. -/
theorem derivedQuantities : Obligations.DerivedQuantities := by
  refine ⟨fun s hs => ?_, fun s hs hl => ?_⟩
  · simp [State.colourCount, State.bytesPerPattern, State.stride, State.rowBytes, alignUp, hs]
  · obtain ⟨-, -, -, -, -, -, hd, -⟩ := configLegal_iff.1 hl
    have hcount : s.colourCount = 2 ^ s.depth.toNat := if_neg hs
    have hstride : s.stride Config.rgx = (s.rowBytes + 3) / 4 * 4 := rfl
    refine ⟨hcount, hcount ▸ two_pow_depth_mem hd, if_neg hs, rowBytes_mul_eight hs hl, ?_⟩
    omega

end Sys2Proof.Machine
end

section
/-!
SUPPORT. Proofs of the statements on what commands leave alone: padding bytes, configuration registers, streams, the palette, and
the phase outside its seven transitions (spec 10_state.md R13 to R17, R21, R26, R31, R48).
-/

namespace Sys2Proof.Machine

open Config (Params)

variable {p : Params} {s t : State} {i : Instr}

/-! ### Padding bytes -/

/-- A pixel's byte is no padding: it stands below `row_bytes` in its row (R46, R47). -/
theorem pixAddr_mod_stride_lt {x : Nat} (ha : 0 < p.strideAlign) (hs : s.phase ≠ .unconfigured)
    (hl : s.configLegal p = true) (hx : x < s.screenW.toNat) (y : Nat) :
    s.pixAddr p x y % s.stride p < s.rowBytes := by
  obtain ⟨-, -, ⟨hw, -⟩, -, -, -, hd, -⟩ := configLegal_iff.1 hl
  have hoff : byteOff s.depth.toNat x < s.rowBytes := byteOff_lt_rowBytes hs hd hw hx
  have hstride : s.rowBytes ≤ s.stride p := le_alignUp _ _ ha
  rw [State.pixAddr, Nat.mul_add_mod', Nat.mod_eq_of_lt (hoff.trans_le hstride)]
  exact hoff

/-- Drawing leaves every padding byte (R48). -/
theorem Drawn.pixByteIn_padding {m : Memory 8} {a : Nat} (h : Drawn p s m) (ha : 0 < p.strideAlign)
    (hs : s.phase ≠ .unconfigured) (hl : s.configLegal p = true) (hpad : s.isPadding p a) :
    pixByteIn s.ramEpoch m a = pixByte s a := by
  refine h.pixByteIn_other fun x y hx _ heq => ?_
  have hlt := pixAddr_mod_stride_lt ha hs hl hx y
  rw [← heq] at hlt
  exact absurd hpad.2 (Nat.not_le.2 hlt)

theorem pixByte_withPix_fill (n a : Nat) (v : Byte) :
    pixByte (s.withPix (Memory.fill s.pix n v)) a = if a < n then v else pixByte s a := by
  simp only [pixByte, pixByteIn, State.withPix_pix, State.withPix_ramEpoch, Memory.read?_fill]
  split <;> rfl

/-- A phase command moves no padding (R25, R47). -/
theorem isPadding_withPhase {b : Phase} (hs : s.phase ≠ .unconfigured) (hb : b ≠ .unconfigured) (a : Nat) :
    (s.withPhase b).isPadding p a ↔ s.isPadding p a := by
  simp only [State.isPadding, pixelBytes_withPhase hs hb, rowBytes_withPhase hs hb, stride_withPhase hs hb]

/-- A command from a configured state to a configured state leaves the padding bytes where they are, and each holds what it held or,
after CLEAR, 0. -/
theorem Effect.padding (he : Effect i s t) (hinv : s.Inv Config.rgx) (hs : s.phase ≠ .unconfigured)
    (ht : t.phase ≠ .unconfigured) (a : Nat) :
    (t.isPadding Config.rgx a ↔ s.isPadding Config.rgx a) ∧
      (s.isPadding Config.rgx a → pixByte t a = pixByte s a ∨ (i = .clear ∧ pixByte t a = 0)) := by
  cases he with
  | answer | presented | palette | pattern | host => exact ⟨Iff.rfl, fun _ => .inl rfl⟩
  | fatal _ hph => exact absurd hph hs
  | configured _ hph => exact absurd hph hs
  | released => exact absurd rfl ht
  | moved hm => exact ⟨isPadding_withPhase hm.configured.1 hm.configured.2 a, fun _ => .inl rfl⟩
  | cleared hi =>
    exact ⟨Iff.rfl, fun hpad => .inr ⟨hi, (pixByte_withPix_fill ..).trans (if_pos hpad.1)⟩⟩
  | drawn _ hm =>
    exact ⟨Iff.rfl, fun hpad => .inl (hm.pixByteIn_padding (by decide) hs (hinv.configured_legal hs) hpad)⟩

/-- Settles O13, by the effect of the command: a pixel's byte is no padding byte. -/
theorem paddingBytesKept : Obligations.PaddingBytesKept := by
  intro i s t hinv hs he ht
  have hpad := (exec_effect he).padding hinv hs ht
  refine ⟨fun hi a ha => ?_, fun hzero a ha => ?_⟩
  · rcases (hpad a).2 ha with h | ⟨hclear, -⟩
    · exact h
    · exact absurd hclear hi
  · have ha := (hpad a).1.1 ha
    rcases (hpad a).2 ha with h | ⟨-, h⟩
    · exact h.trans (hzero a ha)
    · exact h

/-! ### The phase -/

/-- CONFIGURE in Unconfigured succeeds where both storages fit the RAMs (R200, R205). -/
theorem configure_succeeds {cw ch sw sh bpp fr : Int} (hs : s.phase = .unconfigured)
    (hpat : patternNeed (clampRequests cw ch sw sh bpp fr) ≤ p.patternRamBytes)
    (hpix : pixelNeed p (clampRequests cw ch sw sh bpp fr) ≤ p.pixelRamBytes) :
    ∃ t, configure p cw ch sw sh bpp fr s = .next t ∧ t.result = some 1 ∧ t.phase = .ready :=
  ⟨_, configure_next.2 (.inr ⟨hs, takeConfig_next.2 (.inr (.inr ⟨hpat, hpix, rfl⟩))⟩), rfl, rfl⟩

/-- CONFIGURE in Unconfigured fails where a storage does not fit its RAM (R205, R245). -/
theorem configure_fails {cw ch sw sh bpp fr : Int} (hs : s.phase = .unconfigured)
    (hneed : p.patternRamBytes < patternNeed (clampRequests cw ch sw sh bpp fr) ∨
      p.pixelRamBytes < pixelNeed p (clampRequests cw ch sw sh bpp fr)) :
    ∃ t, configure p cw ch sw sh bpp fr s = .next t ∧ t.result = some 0 ∧ t.phase = .unconfigured := by
  by_cases hpat : p.patternRamBytes < patternNeed (clampRequests cw ch sw sh bpp fr)
  · exact ⟨_, configure_next.2 (.inr ⟨hs, takeConfig_next.2 (.inl ⟨hpat, rfl⟩)⟩), rfl, rfl⟩
  · have hpix := hneed.resolve_left hpat
    exact ⟨_, configure_next.2 (.inr ⟨hs, takeConfig_next.2 (.inr (.inl ⟨Nat.not_lt.1 hpat, hpix, rfl⟩))⟩), rfl, rfl⟩

/-- In its source phase a phase command moves to its target (R207, R208, R210, R211). -/
theorem movePhase_moves {a b : Phase} (h : s.phase = a) : ∃ t, movePhase a b s = .next t ∧ t.phase = b :=
  ⟨_, movePhase_next.2 (.inl ⟨h, rfl⟩), rfl⟩

/-- Settles O14: every transition is one of the effects that write the phase, and each of the seven happens. -/
theorem phaseTransitions : Obligations.PhaseTransitions := by
  refine ⟨fun i s t he => ?_, fun p cw ch sw sh bpp fr s hs =>
      ⟨fun ⟨hpat, hpix⟩ => configure_succeeds hs hpat hpix, configure_fails hs⟩,
    fun _ => movePhase_moves, fun _ => movePhase_moves, fun _ => movePhase_moves, fun _ => movePhase_moves,
    fun s hs => ⟨_, execTeardown_next.2 (.inl ⟨hs, rfl⟩), rfl⟩⟩
  cases exec_effect he with
  | answer | presented | cleared | palette | pattern | host | drawn => exact .inl rfl
  | fatal _ hph => exact .inl hph.symm
  | configured hop hph => exact .inr (.inl ⟨hop, hph, rfl, rfl⟩)
  | released hi hph => simp [hi, hph]
  | moved hm =>
    generalize hph : s.phase = a at hm
    cases hm <;> simp

/-! ### Configuration registers and streams -/

/-- Settles O17: the effects that write a register are those of CONFIGURE and TEARDOWN. -/
theorem configurationIsFixed : Obligations.ConfigurationIsFixed := by
  intro i s t he hconf htear
  cases exec_effect he with
  | answer | moved | presented | cleared | palette | pattern | host | drawn => exact ⟨rfl, rfl, rfl, rfl, rfl, rfl⟩
  | fatal hop => exact absurd hop hconf
  | configured hop => exact absurd hop hconf
  | released hi => exact absurd hi htear

/-- Only CONFIGURE in Unconfigured appends to the Output stream (R241, R243). -/
theorem Effect.output (he : Effect i s t) :
    ∃ events, t.output = s.output ++ events ∧ (events ≠ [] → opcodeOf i = 0x01 ∧ s.phase = .unconfigured) := by
  cases he with
  | answer | released | moved | presented | cleared | palette | pattern | host | drawn =>
    exact ⟨[], (List.append_nil _).symm, absurd rfl⟩
  | fatal hop hph es => exact ⟨es, rfl, fun _ => ⟨hop, hph⟩⟩
  | configured hop hph es => exact ⟨es, rfl, fun _ => ⟨hop, hph⟩⟩

/-- Only PRESENT in Ready appends to the Presenter stream, one frame (R213). -/
theorem Effect.presenter (he : Effect i s t) :
    ∃ frames, t.presenter = s.presenter ++ frames ∧ (frames ≠ [] → i = .present ∧ s.phase = .ready ∧ frames.length = 1) := by
  cases he with
  | answer | fatal | configured | released | moved | cleared | palette | pattern | host | drawn =>
    exact ⟨[], (List.append_nil _).symm, absurd rfl⟩
  | presented hi hph f => exact ⟨[f], rfl, fun _ => ⟨hi, hph, rfl⟩⟩

/-- Settles O18, a stream at a time. -/
theorem streamsOnlyGrow : Obligations.StreamsOnlyGrow :=
  fun _ _ _ he => ⟨(exec_effect he).output, (exec_effect he).presenter⟩

/-! ### Pixel commands and the palette: with another palette they take the same branch to the same pixels -/

theorem ite_eq_mapNext {f : State → State} {c c' : Prop} [Decidable c] [Decidable c'] {k k' n n' : Outcome} (hc : c' ↔ c)
    (hk : k' = mapNext f k) (hn : n' = mapNext f n) : (if c' then k' else n') = mapNext f (if c then k else n) := by
  by_cases h : c
  · rw [if_pos h, if_pos (hc.2 h), hk]
  · rw [if_neg h, if_neg (h ∘ hc.1), hn]

section OtherPalette

variable (p s) (m : Memory 24)

theorem finish_withPal (r : Word) : finish r (s.withPal m) = mapNext (State.withPal m) (finish r s) := rfl

theorem noop_withPal : noop (s.withPal m) = mapNext (State.withPal m) (noop s) := finish_withPal s m 0

theorem onLegal_finish_withPal (r : Word) (u : State) :
    onLegal p (s.withPal m) (finish r (u.withPal m)) = mapNext (State.withPal m) (onLegal p s (finish r u)) :=
  ite_eq_mapNext Iff.rfl (finish_withPal u m r) rfl

theorem onLegal_withPix_withPal (pix : Memory 8) :
    onLegal p (s.withPal m) (finish 0 ((s.withPal m).withPix pix)) =
      mapNext (State.withPal m) (onLegal p s (finish 0 (s.withPix pix))) :=
  onLegal_finish_withPal p s m 0 (s.withPix pix)

theorem clear_withPal : clear p (s.withPal m) = mapNext (State.withPal m) (clear p s) :=
  ite_eq_mapNext Iff.rfl (onLegal_withPix_withPal p s m _) (noop_withPal s m)

theorem getPixel_withPal (x y : Int) : getPixel p x y (s.withPal m) = mapNext (State.withPal m) (getPixel p x y s) :=
  ite_eq_mapNext Iff.rfl (onLegal_finish_withPal p s m _ s) (noop_withPal s m)

theorem setPixel_withPal (x y : Int) (index : Half) :
    setPixel p x y index (s.withPal m) = mapNext (State.withPal m) (setPixel p x y index s) :=
  ite_eq_mapNext Iff.rfl (onLegal_withPix_withPal p s m _) (noop_withPal s m)

theorem drawSprite_withPal (a : SpriteArgs) :
    drawSprite p a (s.withPal m) = mapNext (State.withPal m) (drawSprite p a s) :=
  ite_eq_mapNext Iff.rfl (onLegal_withPix_withPal p s m _) (noop_withPal s m)

theorem drawTiles_withPal (a : TileArgs) :
    drawTiles p a (s.withPal m) = mapNext (State.withPal m) (drawTiles p a s) :=
  ite_eq_mapNext Iff.rfl (noop_withPal s m) (onLegal_withPix_withPal p s m _)

end OtherPalette

/-- Settles O21: of the nineteen commands five have these opcodes. -/
theorem pixelsIgnorePalette : Obligations.PixelsIgnorePalette := by
  intro i s m hi
  cases i with
  | clear => exact clear_withPal _ s m
  | getPixel x y => exact getPixel_withPal _ s m x y
  | setPixel x y index => exact setPixel_withPal _ s m x y index
  | drawSprite => exact drawSprite_withPal _ s m _
  | drawTiles => exact drawTiles_withPal _ s m _
  | _ => simp [opcodeOf] at hi

end Sys2Proof.Machine
end

section
/-!
SUPPORT. Proofs of the statements on the codec, the addresses of pixels and pattern samples, and host memory, and that no step stops
(spec 20_memory.md R42 to R49, R52, R60).
-/

namespace Sys2Proof.Machine

open Config (Params)

variable {p : Params} {s t : State} {i : Instr}

/-! ### The codec -/

/-- The field written reads back as the value masked to it (R43). -/
theorem unpack_pack_same {d : Nat} (hd : d ∈ [1, 2, 4, 8]) (b : Byte) (k v : Nat) :
    unpack d (pack d b k v) k = v % 2 ^ d := by
  apply Nat.eq_of_testBit_eq
  intro i
  rw [testBit_unpack, getLsbD_pack, Nat.testBit_mod_two_pow]
  by_cases hi : i < d
  · have hbyte : fieldShift d k + i < 8 := by have := fieldShift_le hd k; omega
    simp [hi, hbyte]
  · simp [hi]

/-- Every other field of the byte reads as before (R43). -/
theorem unpack_pack_other {d j k : Nat} (hd : d ∈ [1, 2, 4, 8]) (h : fieldShift d j ≠ fieldShift d k) (b : Byte) (v : Nat) :
    unpack d (pack d b k v) j = unpack d b j := by
  apply Nat.eq_of_testBit_eq
  intro i
  rw [testBit_unpack, testBit_unpack, getLsbD_pack]
  by_cases hi : i < d
  · have hbyte : fieldShift d j + i < 8 := by have := fieldShift_le hd j; omega
    have hout : ¬ (fieldShift d k ≤ fieldShift d j + i ∧ fieldShift d j + i < fieldShift d k + d) := by
      have := fieldShift_disjoint hd h; omega
    simp only [hbyte, hout, decide_true, Bool.true_and, if_false]
  · simp [hi]

/-- Settles O34: the bits of the field written, and those of a field disjoint from it. -/
theorem packThenUnpack : Obligations.PackThenUnpack :=
  fun _ k v b hd => ⟨unpack_pack_same hd b k v, fun _ h => unpack_pack_other hd h b v⟩

/-! ### Addresses -/

/-- The byte of a row and the field in that byte determine the sample (R43). -/
theorem eq_of_byteOff_fieldShift {d x x' : Nat} (hd : d ∈ [1, 2, 4, 8]) (hbyte : byteOff d x = byteOff d x')
    (hfield : fieldShift d x = fieldShift d x') : x = x' := by
  rcases depth_cases hd with rfl | rfl | rfl | rfl <;> simp only [byteOff, fieldShift, ppb] at hbyte hfield <;> omega

/-- A pixel's address gives its row back: the byte offset stays below the stride (R46). -/
theorem pixAddr_div_stride {x : Nat} (ha : 0 < p.strideAlign) (hs : s.phase ≠ .unconfigured) (hl : s.configLegal p = true)
    (hx : x < s.screenW.toNat) (y : Nat) : s.pixAddr p x y / s.stride p = y := by
  obtain ⟨-, -, ⟨hw, -⟩, -, -, -, hd, -⟩ := configLegal_iff.1 hl
  have hoff : byteOff s.depth.toNat x < s.stride p :=
    (byteOff_lt_rowBytes hs hd hw hx).trans_le (le_alignUp _ _ ha)
  rw [State.pixAddr, Nat.mul_comm, Nat.mul_add_div (Nat.zero_lt_of_lt hoff), Nat.div_eq_of_lt hoff, Nat.add_zero]

/-- Two pixels of the screen in the same byte and the same field are the same pixel (R42, R46). -/
theorem pixAddr_injective {x y x' y' : Nat} (ha : 0 < p.strideAlign) (hs : s.phase ≠ .unconfigured)
    (hl : s.configLegal p = true) (hx : x < s.screenW.toNat) (hx' : x' < s.screenW.toNat)
    (haddr : s.pixAddr p x y = s.pixAddr p x' y')
    (hfield : fieldShift s.depth.toNat x = fieldShift s.depth.toNat x') : x = x' ∧ y = y' := by
  obtain ⟨-, -, -, -, -, -, hd, -⟩ := configLegal_iff.1 hl
  obtain rfl : y = y' := by rw [← pixAddr_div_stride ha hs hl hx y, haddr, pixAddr_div_stride ha hs hl hx' y']
  exact ⟨eq_of_byteOff_fieldShift hd (Nat.add_left_cancel haddr) hfield, rfl⟩

/-- A pattern sample lies in a byte of pattern RAM in use (R41, R49). -/
theorem patAddr_lt_patternBytes (hs : s.phase ≠ .unconfigured) (hl : s.configLegal p = true) (index : Nat) {c r : Nat}
    (hc : c < 8) (hr : r < 8) : s.patAddr index c r < s.patternBytes := by
  obtain ⟨-, -, -, -, -, -, hd, -⟩ := configLegal_iff.1 hl
  have hbase := patBase_add_le hs index
  have hoff : r * s.depth.toNat + byteOff s.depth.toNat c < 8 * s.depth.toNat := by
    rcases depth_cases hd with h | h | h | h <;> simp only [h, byteOff] <;> omega
  rw [State.patAddr]
  omega

/-- Settles O33. -/
theorem addressesStayInUse : Obligations.AddressesStayInUse := by
  intro s hs hl
  have ha : 0 < Config.rgx.strideAlign := by decide
  refine ⟨fun x y hx hy => ⟨pixAddr_lt ha hs hl hx hy, fun hpad => ?_⟩,
    fun index c r hc hr => patAddr_lt_patternBytes hs hl index hc hr,
    fun x y x' y' hx _ hx' _ => pixAddr_injective ha hs hl hx hx'⟩
  exact absurd hpad.2 (Nat.not_le.2 (pixAddr_mod_stride_lt ha hs hl hx y))

/-! ### No step stops -/

theorem completes_finish (r : Word) (s : State) : Completes (finish r s) := ⟨_, rfl⟩

theorem completes_noop (s : State) : Completes (noop s) := completes_finish 0 s

theorem completes_ite {c : Prop} [Decidable c] {k n : Outcome} (hk : c → Completes k) (hn : ¬ c → Completes n) :
    Completes (if c then k else n) := by
  split
  case isTrue h => exact hk h
  case isFalse h => exact hn h

theorem completes_onLegal (hl : s.configLegal p = true) {k : Outcome} (hk : Completes k) : Completes (onLegal p s k) :=
  (onLegal_of_legal hl k).symm ▸ hk

/-- A command that acts only in configured phases, written with its action first. -/
theorem completes_gated {c : Prop} [Decidable c] (hl : s.phase ≠ .unconfigured → s.configLegal p = true)
    (hc : c → s.phase ≠ .unconfigured) (r : Word) (u : State) :
    Completes (if c then onLegal p s (finish r u) else noop s) :=
  completes_ite (fun h => completes_onLegal (hl (hc h)) (completes_finish r u)) fun _ => completes_noop s

/-- A command that acts only in configured phases, written with its guard first. -/
theorem completes_guarded {c : Prop} [Decidable c] (hl : s.phase ≠ .unconfigured → s.configLegal p = true)
    (hc : ¬ c → s.phase ≠ .unconfigured) (r : Word) (u : State) :
    Completes (if c then noop s else onLegal p s (finish r u)) :=
  completes_ite (fun _ => completes_noop s) fun h => completes_onLegal (hl (hc h)) (completes_finish r u)

theorem completes_movePhase (a b : Phase) (s : State) : Completes (movePhase a b s) :=
  completes_ite (fun _ => completes_finish _ _) fun _ => completes_noop s

/-- With `CONV_IMPLEMENTED` empty a pattern transfer meets no conversion (R6, R102). -/
theorem completes_transfer (hl : s.configLegal Config.rgx = true) (bits : Half) (copied : State) :
    Completes (transfer Config.rgx bits copied s) := by
  by_cases hbits : bits.toNat = s.depth.toNat ∧ bits.toNat ∈ [1, 2, 4, 8]
  · exact ⟨_, transfer_next.2 (.inl ⟨(xfer_rgx ..).trans (if_pos hbits), hl, rfl⟩)⟩
  · exact ⟨_, transfer_next.2 (.inr ⟨(xfer_rgx ..).trans (if_neg hbits), rfl⟩)⟩

/-- CONFIGURE completes, also when it ends in a fatal error (R200, R245). -/
theorem completes_configure (p : Params) (cw ch sw sh bpp fr : Int) (s : State) :
    Completes (configure p cw ch sw sh bpp fr s) :=
  completes_ite
    (fun _ => completes_ite (fun _ => completes_finish _ _) fun _ =>
      completes_ite (fun _ => completes_finish _ _) fun _ => completes_finish _ _)
    fun _ => completes_noop s

/-- With legal registers in the configured phases every command completes (R248). -/
theorem exec_completes (hl : s.phase ≠ .unconfigured → s.configLegal Config.rgx = true) (i : Instr) :
    Completes (exec i s) := by
  cases i with
  | configure cw ch sw sh bpp fr => exact completes_configure _ cw ch sw sh bpp fr s
  | teardown => exact completes_ite (fun _ => completes_finish _ _) fun _ => completes_noop s
  | modifyEnter | modifyExit | renderEnter | renderExit => exact completes_movePhase _ _ s
  | getInfo => exact completes_finish _ s
  | clear | present | setColour | drawSprite => exact completes_gated hl (fun h => by simp [h]) _ _
  | getPixel | setPixel => exact completes_gated hl (fun h => by simp [h.1, gatePhase]) _ _
  | getColour => exact completes_guarded hl id _ s
  | readPalette | writePalette | drawTiles => exact completes_guarded hl (fun h => by simp_all) _ _
  | readPattern | writePattern =>
    exact completes_ite (fun _ => completes_noop s) fun h => completes_transfer (hl (by simp_all)) _ _

/-- Settles O12, by the next host event: only a command could stop, and in a state of the invariant none does. -/
theorem stepNeverStops : Obligations.StepNeverStops := by
  intro s hinv
  cases hin : s.inputs with
  | nil => exact ⟨_, step_idle hin⟩
  | cons e rest =>
    cases e with
    | reset => exact ⟨_, step_reset hin⟩
    | hostWrite a v => exact ⟨_, step_hostWrite hin⟩
    | command w =>
      rw [step_command hin]
      cases decode w with
      | ok i => exact exec_completes (hinv.withInputs rest).configured_legal i
      | error e => exact completes_noop _

/-! ### Commands that do not touch host memory -/

section OtherHostMemory

variable {m : Memory 8} {u u' : State}

theorem finish_withHostMem (r : Word) (hu : u' = u.withHostMem m) :
    finish r u' = mapNext (State.withHostMem m) (finish r u) := hu ▸ rfl

theorem noop_withHostMem (s : State) (m : Memory 8) :
    noop (s.withHostMem m) = mapNext (State.withHostMem m) (noop s) := finish_withHostMem 0 rfl

theorem onLegal_finish_withHostMem (p : Params) (s : State) (r : Word) (hu : u' = u.withHostMem m) :
    onLegal p (s.withHostMem m) (finish r u') = mapNext (State.withHostMem m) (onLegal p s (finish r u)) :=
  ite_eq_mapNext Iff.rfl (finish_withHostMem r hu) rfl

theorem movePhase_withHostMem (a b : Phase) (s : State) (m : Memory 8) :
    movePhase a b (s.withHostMem m) = mapNext (State.withHostMem m) (movePhase a b s) :=
  ite_eq_mapNext Iff.rfl (finish_withHostMem 0 rfl) (noop_withHostMem s m)

theorem raiseFatal_withHostMem (code : ErrorCode) (hu : u' = u.withHostMem m) :
    raiseFatal code u' = mapNext (State.withHostMem m) (raiseFatal code u) := hu ▸ finish_withHostMem 0 rfl

theorem takeConfig_withHostMem (p : Params) (c : Clamped) (hu : u' = u.withHostMem m) :
    takeConfig p c u' = mapNext (State.withHostMem m) (takeConfig p c u) :=
  ite_eq_mapNext Iff.rfl (raiseFatal_withHostMem _ hu)
    (ite_eq_mapNext Iff.rfl (raiseFatal_withHostMem _ hu) (finish_withHostMem 1 (hu ▸ rfl)))

theorem configure_withHostMem (p : Params) (cw ch sw sh bpp fr : Int) (s : State) (m : Memory 8) :
    configure p cw ch sw sh bpp fr (s.withHostMem m) =
      mapNext (State.withHostMem m) (configure p cw ch sw sh bpp fr s) :=
  ite_eq_mapNext Iff.rfl (takeConfig_withHostMem p _ rfl) (noop_withHostMem s m)

end OtherHostMemory

/-- The thirteen commands do the same whatever host memory holds (R60). -/
theorem exec_withHostMem (hi : leavesHostMemory i = true) (s : State) (m : Memory 8) :
    exec i (s.withHostMem m) = mapNext (State.withHostMem m) (exec i s) := by
  cases i with
  | configure cw ch sw sh bpp fr => exact configure_withHostMem _ cw ch sw sh bpp fr s m
  | teardown => exact ite_eq_mapNext Iff.rfl (finish_withHostMem 0 rfl) (noop_withHostMem s m)
  | modifyEnter | modifyExit | renderEnter | renderExit => exact movePhase_withHostMem _ _ s m
  | getInfo => exact finish_withHostMem _ rfl
  | clear | present | setColour | getPixel | setPixel =>
    exact ite_eq_mapNext Iff.rfl (onLegal_finish_withHostMem _ s _ rfl) (noop_withHostMem s m)
  | getColour => exact ite_eq_mapNext Iff.rfl (noop_withHostMem s m) (onLegal_finish_withHostMem _ s _ rfl)
  | readPalette | writePalette | readPattern | writePattern | drawSprite | drawTiles => exact nomatch hi

/-- What does the same whatever host memory holds cannot have changed it. -/
theorem hostMem_of_leaves (hi : leavesHostMemory i = true) (h : exec i s = .next t) : t.hostMem = s.hostMem := by
  have hsame := exec_withHostMem hi s s.hostMem
  rw [show s.withHostMem s.hostMem = s from rfl, h] at hsame
  have ht : t = t.withHostMem s.hostMem := by injection hsame
  rw [ht, State.withHostMem_hostMem]

/-- Seventeen commands leave host memory as it is (R60). -/
theorem hostMem_of_not_writes (hi : writesHostMemory i = false) (h : exec i s = .next t) : t.hostMem = s.hostMem := by
  by_cases hleaves : leavesHostMemory i = true
  · exact hostMem_of_leaves hleaves h
  cases i with
  | writePalette => rcases writePalette_next.1 h with ⟨-, rfl⟩ | ⟨-, -, -, rfl⟩ <;> rfl
  | writePattern => rcases writePattern_next.1 h with ⟨-, rfl⟩ | ⟨-, -, -, -, rfl⟩ <;> rfl
  | drawSprite => rcases drawSprite_next.1 h with ⟨-, -, rfl⟩ | ⟨-, rfl⟩ <;> rfl
  | drawTiles => rcases drawTiles_next.1 h with ⟨-, rfl⟩ | ⟨-, -, -, -, rfl⟩ <;> rfl
  | readPalette | readPattern => exact nomatch hi
  | _ => exact absurd rfl hleaves

/-! ### Commands that write host memory -/

/-- At each address `MemWrite` either leaves the memory as it is or stores a value that does not depend on it (R8). -/
theorem read?_hostWriteBytes_cases (p : Params) (bs : List Byte) (a b : Nat) :
    (∀ m, Memory.read? (hostWriteBytes p m a bs) b = Memory.read? m b) ∨
      ∃ v, ∀ m, Memory.read? (hostWriteBytes p m a bs) b = some v := by
  induction bs generalizing a with
  | nil => exact .inl fun _ => rfl
  | cons v bs ih =>
    rcases ih (a + 1) with hleft | ⟨u, hstored⟩
    · by_cases hb : b = hostAddr p a
      · exact .inr ⟨v, fun m => by rw [hostWriteBytes, hleft, hb, Memory.read?_write_same]⟩
      · exact .inl fun m => by rw [hostWriteBytes, hleft, Memory.read?_write_other m v hb]
    · exact .inr ⟨u, fun m => hstored _⟩

/-- What READ_PALETTE and READ_PATTERN store, and where, is fixed by the state outside host memory; nothing is stored when they
do not act (R103, R136). -/
theorem exec_stores (hi : writesHostMemory i = true) (s : State) :
    ∃ a bs, ∀ m t, exec i (s.withHostMem m) = .next t →
      t = (s.withHostMem (hostWriteBytes Config.rgx m a bs)).withResult 0 := by
  cases i with
  | readPalette out =>
    by_cases hguard : s.phase = .unconfigured ∨ out = 0
    · refine ⟨0, [], fun m t h => ?_⟩
      rcases readPalette_next.1 h with ⟨-, rfl⟩ | ⟨hph, hout, -, -⟩
      · rfl
      · exact absurd hguard (not_or.2 ⟨hph, hout⟩)
    · refine ⟨out.toNat, paletteBytes s, fun m t h => ?_⟩
      rcases readPalette_next.1 h with ⟨hg, -⟩ | ⟨-, -, -, rfl⟩
      · exact absurd hg hguard
      · rfl
  | readPattern index bits out =>
    by_cases hguard : s.phase = .unconfigured ∨ out = 0 ∨ xfer Config.rgx s.depth.toNat bits.toNat = .none
    · refine ⟨0, [], fun m t h => ?_⟩
      rcases readPattern_next.1 h with ⟨-, rfl⟩ | ⟨hph, hout, hcopy, -, -⟩
      · rfl
      · simp_all
    · refine ⟨out.toNat, patternBytesOf s index.toNat, fun m t h => ?_⟩
      rcases readPattern_next.1 h with ⟨hg, -⟩ | ⟨-, -, -, -, rfl⟩
      · exact absurd hg hguard
      · rfl
  | _ => exact nomatch hi

/-- Settles O20: the thirteen commands commute with a change of host memory, the two writers store the same bytes in both runs, and
the rest leave it. -/
theorem hostMemoryUse : Obligations.HostMemoryUse := by
  refine ⟨fun i s m hi => exec_withHostMem hi s m, fun i s t t' m hi h h' => ?_, fun i s t => hostMem_of_not_writes⟩
  obtain ⟨a, bs, hstores⟩ := exec_stores hi s
  obtain rfl := hstores s.hostMem t h
  obtain rfl := hstores m t' h'
  refine ⟨rfl, fun b => ?_⟩
  simp only [hostByteAt, State.withResult_hostMem, State.withHostMem_hostMem]
  rcases read?_hostWriteBytes_cases Config.rgx bs a (hostAddr Config.rgx b) with hleft | ⟨v, hstored⟩
  · exact .inr ⟨by rw [hleft], by rw [hleft]⟩
  · exact .inl (by rw [hstored, hstored])

end Sys2Proof.Machine
end

section
/-!
SUPPORT. Proofs of the statements on the encoding (spec 30_encoding.md R70 to R80, R83): the decoder's answer by opcode, the round
trip of the encoder, reserved bits and reserved opcodes.
-/

namespace Sys2Proof.Machine

/-! ### The decoder, one equation per opcode (R72, R73, R76) -/

section DecodeByOpcode

variable {w : Packet}

theorem decode_configure (h : w.opcode = 0x01) :
    decode w = .ok (.configure (signed16 w.fieldB) (signed16 w.fieldC) (signed16 (lowHalf w.fieldP0))
      (signed16 (highHalf w.fieldP0)) (signed16 (lowHalf w.fieldP1)) (signed16 (highHalf w.fieldP1))) := by
  rw [decode, h]; rfl

theorem decode_teardown (h : w.opcode = 0x02) : decode w = .ok .teardown := by rw [decode, h]; rfl

theorem decode_modifyEnter (h : w.opcode = 0x03) : decode w = .ok .modifyEnter := by rw [decode, h]; rfl

theorem decode_modifyExit (h : w.opcode = 0x04) : decode w = .ok .modifyExit := by rw [decode, h]; rfl

theorem decode_renderEnter (h : w.opcode = 0x05) : decode w = .ok .renderEnter := by rw [decode, h]; rfl

theorem decode_renderExit (h : w.opcode = 0x06) : decode w = .ok .renderExit := by rw [decode, h]; rfl

theorem decode_clear (h : w.opcode = 0x07) : decode w = .ok .clear := by rw [decode, h]; rfl

theorem decode_present (h : w.opcode = 0x08) : decode w = .ok .present := by rw [decode, h]; rfl

theorem decode_getInfo (h : w.opcode = 0x09) : decode w = .ok (.getInfo w.fieldA) := by rw [decode, h]; rfl

theorem decode_getColour (h : w.opcode = 0x10) : decode w = .ok (.getColour w.fieldA) := by rw [decode, h]; rfl

theorem decode_setColour (h : w.opcode = 0x11) :
    decode w = .ok (.setColour w.fieldA (w.fieldP0.extractLsb' 0 24)) := by rw [decode, h]; rfl

theorem decode_readPalette (h : w.opcode = 0x12) : decode w = .ok (.readPalette w.fieldP0) := by rw [decode, h]; rfl

theorem decode_writePalette (h : w.opcode = 0x13) : decode w = .ok (.writePalette w.fieldP0) := by rw [decode, h]; rfl

theorem decode_readPattern (h : w.opcode = 0x14) : decode w = .ok (.readPattern w.fieldA w.fieldB w.fieldP0) := by
  rw [decode, h]; rfl

theorem decode_writePattern (h : w.opcode = 0x15) : decode w = .ok (.writePattern w.fieldA w.fieldB w.fieldP0) := by
  rw [decode, h]; rfl

theorem decode_getPixel (h : w.opcode = 0x18) :
    decode w = .ok (.getPixel (signed16 w.fieldB) (signed16 w.fieldC)) := by rw [decode, h]; rfl

theorem decode_setPixel (h : w.opcode = 0x19) :
    decode w = .ok (.setPixel (signed16 w.fieldB) (signed16 w.fieldC) w.fieldA) := by rw [decode, h]; rfl

theorem decode_drawSprite (h : w.opcode = 0x20) :
    decode w = .ok (.drawSprite (signed16 w.fieldB) (signed16 w.fieldC) w.fieldA w.fieldP0 (w.flags.getLsbD 0)
      (w.flags.getLsbD 1) (w.flags.getLsbD 2) (w.flags.getLsbD 3)) := by rw [decode, h]; rfl

theorem decode_drawTiles (h : w.opcode = 0x21) :
    decode w = .ok (.drawTiles (signed16 w.fieldB) (signed16 w.fieldC) w.fieldP0 w.fieldP1 (w.flags.getLsbD 2)
      (w.flags.getLsbD 3) (w.flags.getLsbD 4)) := by rw [decode, h]; rfl

/-- The nineteen opcodes, as cases (R76). -/
theorem opcode_cases {o : Byte} (h : o ∈ commandOpcodes) :
    o = 0x01 ∨ o = 0x02 ∨ o = 0x03 ∨ o = 0x04 ∨ o = 0x05 ∨ o = 0x06 ∨ o = 0x07 ∨ o = 0x08 ∨ o = 0x09 ∨ o = 0x10 ∨
      o = 0x11 ∨ o = 0x12 ∨ o = 0x13 ∨ o = 0x14 ∨ o = 0x15 ∨ o = 0x18 ∨ o = 0x19 ∨ o = 0x20 ∨ o = 0x21 := by
  simpa [commandOpcodes] using h

theorem mem_commandOpcodes_of_toNat {o : Byte} (h : o.toNat ∈ commandOpcodes.map BitVec.toNat) : o ∈ commandOpcodes := by
  obtain ⟨c, hc, heq⟩ := List.mem_map.1 h
  exact BitVec.eq_of_toNat_eq heq ▸ hc

/-- Every other value of `OPCODE` is reserved (R77): an arm of the decoder for a command names an opcode of the list. -/
theorem decode_reserved (h : w.opcode ∉ commandOpcodes) : decode w = .error (.reservedOpcode w.opcode) := by
  unfold decode
  split
  case h_20 => rfl
  all_goals
    rename_i hop
    exact absurd (mem_commandOpcodes_of_toNat (by rw [hop]; decide)) h

end DecodeByOpcode

/-! ### Decoding what was encoded -/

/-- The bytes of a packet decode as the packet does (R70). -/
theorem decodeBytes_bytes (w : Packet) : decodeBytes w.bytes = decode w := by
  rw [decodeBytes, if_pos (by simp [Packet.bytes]), littleEndian_bytes]

/-- The colour of SET_COLOUR survives its 32-bit field (R72). -/
theorem extractLsb'_setWidth_colour (colour : Colour) : (colour.setWidth 32).extractLsb' 0 24 = colour := by
  rw [BitVec.extractLsb'_setWidth_of_le (by decide), BitVec.extractLsb'_eq_self]

/-- Each field of the packet gives its operand back; a signed one does because it is in range (R74). -/
theorem decode_encode {i : Instr} (h : i.wellFormed = true) : decode (encode i) = .ok i := by
  cases i with
  | configure cw ch sw sh bpp fr =>
    simp only [Instr.wellFormed, Bool.and_eq_true] at h
    obtain ⟨⟨⟨⟨⟨hcw, hch⟩, hsw⟩, hsh⟩, hbpp⟩, hfr⟩ := h
    simp [decode_configure, encode, signed16_coordBits, hcw, hch, hsw, hsh, hbpp, hfr]
  | teardown => exact decode_teardown (packet_opcode ..)
  | modifyEnter => exact decode_modifyEnter (packet_opcode ..)
  | modifyExit => exact decode_modifyExit (packet_opcode ..)
  | renderEnter => exact decode_renderEnter (packet_opcode ..)
  | renderExit => exact decode_renderExit (packet_opcode ..)
  | clear => exact decode_clear (packet_opcode ..)
  | present => exact decode_present (packet_opcode ..)
  | getInfo => simp [decode_getInfo, encode]
  | getColour => simp [decode_getColour, encode]
  | setColour => simp [decode_setColour, encode, extractLsb'_setWidth_colour]
  | readPalette => simp [decode_readPalette, encode]
  | writePalette => simp [decode_writePalette, encode]
  | readPattern => simp [decode_readPattern, encode]
  | writePattern => simp [decode_writePattern, encode]
  | getPixel x y =>
    obtain ⟨hx, hy⟩ := (Bool.and_eq_true ..).mp h
    simp [decode_getPixel, encode, signed16_coordBits, hx, hy]
  | setPixel x y index =>
    obtain ⟨hx, hy⟩ := (Bool.and_eq_true ..).mp h
    simp [decode_setPixel, encode, signed16_coordBits, hx, hy]
  | drawSprite x y pattern palette hflip vflip hwrap vwrap =>
    obtain ⟨hx, hy⟩ := (Bool.and_eq_true ..).mp h
    simp [decode_drawSprite, encode, signed16_coordBits, hx, hy]
  | drawTiles x y tiles palettes hwrap vwrap transparent =>
    obtain ⟨hx, hy⟩ := (Bool.and_eq_true ..).mp h
    simp [decode_drawTiles, encode, signed16_coordBits, hx, hy]

/-- Settles O1: the round trip of the packet, and the packet is what its 16 bytes make. -/
theorem decodeOfEncode : Obligations.DecodeOfEncode :=
  fun i h => ⟨decode_encode h, (decodeBytes_bytes (encode i)).trans (decode_encode h)⟩

/-- Settles O2: the packet and its bytes by evaluation, decoding by the round trip. -/
theorem workedSpriteEncoding : Obligations.WorkedSpriteEncoding := by
  have hpacket : encode (.drawSprite (-1) 0 1 0 false false true false) = 0x00000000000000000000FFFF00010420#128 := by
    decide
  exact ⟨hpacket, hpacket ▸ decode_encode (by decide), by decide⟩

/-! ### Decoding is total -/

/-- Every 16-bit field holds a signed operand in range (R74). -/
theorem fitsCoord_signed16 (f : Half) : fitsCoord (signed16 f) = true := by
  rw [fitsCoord, Bool.and_eq_true, decide_eq_true_eq, decide_eq_true_eq]
  exact ⟨f.le_toInt, f.toInt_lt⟩

/-- A packet with one of the nineteen opcodes is a well-formed command of that opcode (R76). -/
theorem decode_of_mem_commandOpcodes {w : Packet} (h : w.opcode ∈ commandOpcodes) :
    ∃ i, decode w = .ok i ∧ opcodeOf i = w.opcode ∧ i.wellFormed = true := by
  rcases opcode_cases h with h | h | h | h | h | h | h | h | h | h | h | h | h | h | h | h | h | h | h
  · exact ⟨_, decode_configure h, h.symm, by simp [Instr.wellFormed, fitsCoord_signed16]⟩
  · exact ⟨_, decode_teardown h, h.symm, rfl⟩
  · exact ⟨_, decode_modifyEnter h, h.symm, rfl⟩
  · exact ⟨_, decode_modifyExit h, h.symm, rfl⟩
  · exact ⟨_, decode_renderEnter h, h.symm, rfl⟩
  · exact ⟨_, decode_renderExit h, h.symm, rfl⟩
  · exact ⟨_, decode_clear h, h.symm, rfl⟩
  · exact ⟨_, decode_present h, h.symm, rfl⟩
  · exact ⟨_, decode_getInfo h, h.symm, rfl⟩
  · exact ⟨_, decode_getColour h, h.symm, rfl⟩
  · exact ⟨_, decode_setColour h, h.symm, rfl⟩
  · exact ⟨_, decode_readPalette h, h.symm, rfl⟩
  · exact ⟨_, decode_writePalette h, h.symm, rfl⟩
  · exact ⟨_, decode_readPattern h, h.symm, rfl⟩
  · exact ⟨_, decode_writePattern h, h.symm, rfl⟩
  · exact ⟨_, decode_getPixel h, h.symm, by simp [Instr.wellFormed, fitsCoord_signed16]⟩
  · exact ⟨_, decode_setPixel h, h.symm, by simp [Instr.wellFormed, fitsCoord_signed16]⟩
  · exact ⟨_, decode_drawSprite h, h.symm, by simp [Instr.wellFormed, fitsCoord_signed16]⟩
  · exact ⟨_, decode_drawTiles h, h.symm, by simp [Instr.wellFormed, fitsCoord_signed16]⟩

/-- Settles O5: an opcode is one of the nineteen or reserved. -/
theorem decodingIsTotal : Obligations.DecodingIsTotal := by
  intro w
  by_cases h : w.opcode ∈ commandOpcodes
  · exact .inl ⟨h, decode_of_mem_commandOpcodes h⟩
  · exact .inr ⟨h, decode_reserved h⟩

/-- Settles O7: a packet that does not decode is served as `noop`; the count is by evaluation. -/
theorem reservedOpcodeIsNoop : Obligations.ReservedOpcodeIsNoop := by
  refine ⟨fun s w rest hin hop => ?_, by decide +kernel⟩
  rw [step_command hin, decode_reserved hop]
  rfl

/-! ### Reserved fields and bits (R78) -/

section AgreeingPackets

variable {w w' m : Packet} (h : w &&& m = w' &&& m)

include h

/-- Packets that agree under a mask agree on every field the mask covers. -/
theorem extractLsb'_congr_mask {start len : Nat} (hm : m.extractLsb' start len = BitVec.allOnes len) :
    w.extractLsb' start len = w'.extractLsb' start len := by
  have hfield := congrArg (BitVec.extractLsb' start len) h
  simpa only [BitVec.extractLsb'_and, hm, BitVec.and_allOnes] using hfield

theorem fieldA_congr_mask (hm : m.fieldA = BitVec.allOnes 16) : w.fieldA = w'.fieldA := extractLsb'_congr_mask h hm
theorem fieldB_congr_mask (hm : m.fieldB = BitVec.allOnes 16) : w.fieldB = w'.fieldB := extractLsb'_congr_mask h hm
theorem fieldC_congr_mask (hm : m.fieldC = BitVec.allOnes 16) : w.fieldC = w'.fieldC := extractLsb'_congr_mask h hm
theorem fieldP0_congr_mask (hm : m.fieldP0 = BitVec.allOnes 32) : w.fieldP0 = w'.fieldP0 := extractLsb'_congr_mask h hm
theorem fieldP1_congr_mask (hm : m.fieldP1 = BitVec.allOnes 32) : w.fieldP1 = w'.fieldP1 := extractLsb'_congr_mask h hm

/-- The colour of SET_COLOUR, bits 23:0 of P0 (R72). -/
theorem colour_congr_mask (hm : m.extractLsb' 64 24 = BitVec.allOnes 24) :
    w.fieldP0.extractLsb' 0 24 = w'.fieldP0.extractLsb' 0 24 := by
  have hcolour (v : Packet) : v.fieldP0.extractLsb' 0 24 = v.extractLsb' 64 24 := by
    refine BitVec.eq_of_getLsbD_eq fun i hi => ?_
    have hword : i < 32 := by omega
    simp only [Packet.fieldP0, BitVec.getLsbD_extractLsb', hi, hword, Nat.zero_add, decide_true, Bool.true_and]
  rw [hcolour, hcolour, extractLsb'_congr_mask h hm]

/-- A flag the mask covers (R73). -/
theorem flag_congr_mask {k : Nat} (hm : m.flags.getLsbD k = true) : w.flags.getLsbD k = w'.flags.getLsbD k := by
  have hflag := congrArg (fun v => (Packet.flags v).getLsbD k) h
  have hand (v : Packet) : (Packet.flags (v &&& m)).getLsbD k = v.flags.getLsbD k := by
    rw [Packet.flags, BitVec.extractLsb'_and, BitVec.getLsbD_and]
    exact (congrArg _ hm).trans (Bool.and_true _)
  rwa [hand, hand] at hflag

end AgreeingPackets

/-- The opcode is listed for every opcode (R71). -/
theorem listedBits_opcode (o : Byte) : (listedBits o).opcode = BitVec.allOnes 8 := by
  unfold listedBits
  split <;> decide

/-- The listed bits cover every field and flag the decoder looks at for the opcode (R78). -/
theorem decode_congr_listedBits {w w' : Packet} (h : w &&& listedBits w.opcode = w' &&& listedBits w.opcode)
    (hop : w.opcode = w'.opcode) : decode w = decode w' := by
  by_cases hmem : w.opcode ∈ commandOpcodes
  case neg => rw [decode_reserved hmem, decode_reserved (hop ▸ hmem), hop]
  rcases opcode_cases hmem with ho | ho | ho | ho | ho | ho | ho | ho | ho | ho | ho | ho | ho | ho | ho | ho | ho | ho | ho
  all_goals
    have ho' := hop.symm.trans ho
    rw [ho] at h
  · rw [decode_configure ho, decode_configure ho', fieldB_congr_mask h (by decide), fieldC_congr_mask h (by decide),
      fieldP0_congr_mask h (by decide), fieldP1_congr_mask h (by decide)]
  · rw [decode_teardown ho, decode_teardown ho']
  · rw [decode_modifyEnter ho, decode_modifyEnter ho']
  · rw [decode_modifyExit ho, decode_modifyExit ho']
  · rw [decode_renderEnter ho, decode_renderEnter ho']
  · rw [decode_renderExit ho, decode_renderExit ho']
  · rw [decode_clear ho, decode_clear ho']
  · rw [decode_present ho, decode_present ho']
  · rw [decode_getInfo ho, decode_getInfo ho', fieldA_congr_mask h (by decide)]
  · rw [decode_getColour ho, decode_getColour ho', fieldA_congr_mask h (by decide)]
  · rw [decode_setColour ho, decode_setColour ho', fieldA_congr_mask h (by decide), colour_congr_mask h (by decide)]
  · rw [decode_readPalette ho, decode_readPalette ho', fieldP0_congr_mask h (by decide)]
  · rw [decode_writePalette ho, decode_writePalette ho', fieldP0_congr_mask h (by decide)]
  · rw [decode_readPattern ho, decode_readPattern ho', fieldA_congr_mask h (by decide), fieldB_congr_mask h (by decide),
      fieldP0_congr_mask h (by decide)]
  · rw [decode_writePattern ho, decode_writePattern ho', fieldA_congr_mask h (by decide), fieldB_congr_mask h (by decide),
      fieldP0_congr_mask h (by decide)]
  · rw [decode_getPixel ho, decode_getPixel ho', fieldB_congr_mask h (by decide), fieldC_congr_mask h (by decide)]
  · rw [decode_setPixel ho, decode_setPixel ho', fieldA_congr_mask h (by decide), fieldB_congr_mask h (by decide),
      fieldC_congr_mask h (by decide)]
  · rw [decode_drawSprite ho, decode_drawSprite ho', fieldA_congr_mask h (by decide), fieldB_congr_mask h (by decide),
      fieldC_congr_mask h (by decide), fieldP0_congr_mask h (by decide), flag_congr_mask h (k := 0) (by decide),
      flag_congr_mask h (k := 1) (by decide), flag_congr_mask h (k := 2) (by decide),
      flag_congr_mask h (k := 3) (by decide)]
  · rw [decode_drawTiles ho, decode_drawTiles ho', fieldB_congr_mask h (by decide), fieldC_congr_mask h (by decide),
      fieldP0_congr_mask h (by decide), fieldP1_congr_mask h (by decide), flag_congr_mask h (k := 2) (by decide),
      flag_congr_mask h (k := 3) (by decide), flag_congr_mask h (k := 4) (by decide)]

/-- Settles O4: agreeing packets have the same opcode, and then the same operands; of a flip byte only bit 0 is kept (R56). -/
theorem reservedBitsAreIgnored : Obligations.ReservedBitsAreIgnored := by
  refine ⟨fun w w' h => decode_congr_listedBits h (extractLsb'_congr_mask h (listedBits_opcode _)),
    fun b0 b1 b2 b3 => ?_, fun _ _ _ _ => rfl⟩
  simp [tileOfBytes]

end Sys2Proof.Machine
end

section
/-!
SUPPORT. Proofs of the statements on results, pattern transfers and FRAME_BEGIN (spec 30_encoding.md R79, R82;
40_pixel_codec_and_pattern_store.md R103 to R106; 44_context_control.md R209).
-/

namespace Sys2Proof.Machine

open Config (Params)

variable {p : Params} {s t : State} {i : Instr}

/-! ### Results (R79) -/

/-- A completed command has a result. -/
theorem Effect.result (he : Effect i s t) : ∃ r, t.result = some r := by
  cases he <;> exact ⟨_, rfl⟩

/-- The result is 0 unless the command is CONFIGURE, GET_INFO, GET_COLOUR or GET_PIXEL. -/
theorem exec_result_zero (hop : opcodeOf i ∉ ([0x01, 0x09, 0x10, 0x18] : List Byte)) (h : exec i s = .next t) :
    t.result = some 0 := by
  cases i with
  | configure | getInfo | getColour | getPixel => simp [opcodeOf] at hop
  | teardown => rcases execTeardown_next.1 h with ⟨-, rfl⟩ | ⟨-, rfl⟩ <;> rfl
  | modifyEnter | modifyExit | renderEnter | renderExit => rcases movePhase_next.1 h with ⟨-, rfl⟩ | ⟨-, rfl⟩ <;> rfl
  | clear => rcases clear_next.1 h with ⟨-, -, rfl⟩ | ⟨-, rfl⟩ <;> rfl
  | present => rcases present_next.1 h with ⟨-, -, rfl⟩ | ⟨-, rfl⟩ <;> rfl
  | setColour => rcases setColour_next.1 h with ⟨-, -, rfl⟩ | ⟨-, rfl⟩ <;> rfl
  | readPalette => rcases readPalette_next.1 h with ⟨-, rfl⟩ | ⟨-, -, -, rfl⟩ <;> rfl
  | writePalette => rcases writePalette_next.1 h with ⟨-, rfl⟩ | ⟨-, -, -, rfl⟩ <;> rfl
  | readPattern => rcases readPattern_next.1 h with ⟨-, rfl⟩ | ⟨-, -, -, -, rfl⟩ <;> rfl
  | writePattern => rcases writePattern_next.1 h with ⟨-, rfl⟩ | ⟨-, -, -, -, rfl⟩ <;> rfl
  | setPixel => rcases setPixel_next.1 h with ⟨-, -, -, rfl⟩ | ⟨-, rfl⟩ <;> rfl
  | drawSprite => rcases drawSprite_next.1 h with ⟨-, -, rfl⟩ | ⟨-, rfl⟩ <;> rfl
  | drawTiles => rcases drawTiles_next.1 h with ⟨-, rfl⟩ | ⟨-, -, -, -, rfl⟩ <;> rfl

/-- Settles O19: every effect leaves a result, and of the other fifteen commands it is 0. -/
theorem resultIsZeroForMost : Obligations.ResultIsZeroForMost := by
  intro i s t h
  obtain ⟨r, hr⟩ := (exec_effect h).result
  refine ⟨r, hr, fun hne => ?_⟩
  by_contra hop
  rw [exec_result_zero hop h] at hr
  exact hne (Option.some.inj hr).symm

/-! ### Pattern transfers at the configured depth (R103 to R106) -/

/-- At the configured depth a transfer copies (R102). -/
theorem xfer_copy {bits : Half} (hl : s.configLegal p = true) (hbits : bits.toNat = s.depth.toNat) :
    xfer p s.depth.toNat bits.toNat = .copy := by
  obtain ⟨-, -, -, -, -, -, hd, -⟩ := configLegal_iff.1 hl
  exact if_pos ⟨hbits, hbits ▸ hd⟩

/-- The base of pattern `index & 255` (R49). -/
theorem patBase_eq (s : State) (index : Nat) : s.patBase index = index % 256 * (8 * s.depth.toNat) := by
  rw [State.patBase, patternNumber, Nat.mul_assoc, Nat.and_two_pow_sub_one_eq_mod index 8]

/-- A pattern's bytes fit the address space of host memory (R49, R52). -/
theorem eight_mul_depth_le_hostSpace (s : State) : 8 * s.depth.toNat ≤ 2 ^ Config.rgx.hostAddrBits := by
  have hdepth := s.depth.isLt
  rw [rgx_hostAddrBits]
  omega

/-- A byte of host memory inside the buffer of `MemWrite` (R8, R52). -/
theorem hostByteAt_hostWriteBytes {bs : List Byte} {a k : Nat} (hk : k < bs.length)
    (hn : bs.length ≤ 2 ^ p.hostAddrBits) :
    hostByteAt p (s.withHostMem (hostWriteBytes p s.hostMem a bs)) (a + k) = bs[k] := by
  rw [hostByteAt, State.withHostMem_hostMem, read?_hostWriteBytes p bs _ a k hk hn, List.getElem?_eq_getElem hk]
  rfl

/-- A byte of host memory outside the buffer of `MemWrite` (R8, R52). -/
theorem hostByteAt_hostWriteBytes_other {bs : List Byte} {a b : Nat}
    (h : ∀ k < bs.length, hostAddr p b ≠ hostAddr p (a + k)) :
    hostByteAt p (s.withHostMem (hostWriteBytes p s.hostMem a bs)) b = hostByteAt p s b := by
  rw [hostByteAt, State.withHostMem_hostMem, read?_hostWriteBytes_other p bs _ a _ h, hostByteAt]

/-- Settles O41: READ_PATTERN stores the pattern's bytes by `MemWrite`. -/
theorem readPatternCopiesOut : Obligations.ReadPatternCopiesOut := by
  refine ⟨fun w => decode_readPattern, fun index bits out s hs hl hout hbits => ?_⟩
  have hlen : (patternBytesOf s index.toNat).length = 8 * s.depth.toNat := by simp [patternBytesOf]
  refine ⟨_, readPattern_next.2 (.inr ⟨hs, hout, xfer_copy hl hbits, hl, rfl⟩), fun k hk => ?_, fun a ha => ?_, rfl⟩
  · refine (hostByteAt_hostWriteBytes (hlen.symm ▸ hk) (hlen.symm ▸ eight_mul_depth_le_hostSpace s)).trans ?_
    simp [patternBytesOf, patBase_eq]
  · exact hostByteAt_hostWriteBytes_other (hlen.symm ▸ ha)

/-- A byte of pattern RAM after a list of bytes is written at consecutive addresses. -/
theorem patByte_writeList {bs : List Byte} {a k : Nat} (hk : k < bs.length) :
    patByte (s.withPat (Memory.writeList s.pat a bs)) (a + k) = bs[k] := by
  rw [patByte, State.withPat_pat, Memory.read?_writeList, if_pos (by omega), Nat.add_sub_cancel_left,
    List.getElem?_eq_getElem hk]
  rfl

theorem patByte_writeList_other {bs : List Byte} {a b : Nat} (h : b < a ∨ a + bs.length ≤ b) :
    patByte (s.withPat (Memory.writeList s.pat a bs)) b = patByte s b := by
  rw [patByte, State.withPat_pat, Memory.read?_writeList, if_neg (by omega)]
  rfl

/-- Settles O42: WRITE_PATTERN writes the buffer's bytes from the pattern's base up. -/
theorem writePatternCopiesIn : Obligations.WritePatternCopiesIn := by
  refine ⟨fun w => decode_writePattern, fun index bits src s hph hl hsrc hbits => ?_⟩
  have hlen : (hostRead Config.rgx s src.toNat (8 * s.depth.toNat)).length = 8 * s.depth.toNat := by simp [hostRead]
  refine ⟨_, writePattern_next.2 (.inr ⟨hph, hsrc, xfer_copy hl hbits, hl, rfl⟩), fun k hk => ?_, fun a ha => ?_, rfl⟩
  · rw [← patBase_eq]
    refine (patByte_writeList (hlen.symm ▸ hk)).trans ?_
    simp [hostRead]
  · rw [← patBase_eq] at ha
    exact patByte_writeList_other (hlen.symm ▸ ha)

/-! ### FRAME_BEGIN (R82) -/

theorem unpack_zero (d k : Nat) : unpack d 0 k = 0 := by simp [unpack]

/-- With every byte in use 0, every pixel of the screen reads as 0 (R46). -/
theorem pixGet_eq_zero {x y : Nat} (ha : 0 < p.strideAlign) (hs : s.phase ≠ .unconfigured) (hl : s.configLegal p = true)
    (hzero : ∀ a < s.pixelBytes p, pixByte s a = 0) (hx : x < s.screenW.toNat) (hy : y < s.screenH.toNat) :
    pixGet p s x y = 0 := by
  have hbyte : pixByteIn s.ramEpoch s.pix (s.pixAddr p x y) = 0 := hzero _ (pixAddr_lt ha hs hl hx hy)
  rw [pixGet, pixGetIn, hbyte, unpack_zero]

/-- With every pixel of the screen 0, GET_PIXEL answers 0 everywhere (R130). -/
theorem getPixel_eq_zero (hl : s.configLegal p = true)
    (hzero : ∀ x y, x < s.screenW.toNat → y < s.screenH.toNat → pixGet p s x y = 0) (x y : Int) :
    getPixel p x y s = .next (s.withResult 0) := by
  by_cases hin : s.phase = .rendering ∧ s.inScreen x y
  · obtain ⟨hph, hscreen⟩ := hin
    refine getPixel_next.2 (.inl ⟨hph, hscreen, hl, ?_⟩)
    obtain ⟨hx, hx', hy, hy'⟩ := hscreen
    rw [hzero x.toNat y.toNat (by omega) (by omega)]
    rfl
  · exact getPixel_next.2 (.inr ⟨hin, rfl⟩)

/-- Settles O47: after CLEAR every byte in use holds 0, and RENDER_ENTER moves the phase alone. -/
theorem frameBeginShowsZero : Obligations.FrameBeginShowsZero := by
  intro s hph hl
  refine ⟨_, _, clear_next.2 (.inl ⟨hph, hl, rfl⟩), movePhase_next.2 (.inl ⟨hph, rfl⟩), rfl, ?_⟩
  generalize ht : (s.withPix (Memory.fill s.pix (s.pixelBytes Config.rgx) 0)).withResult 0 = t
  have hs : t.phase ≠ .unconfigured := by simp [← ht, hph]
  have hlt : t.configLegal Config.rgx = true := by simpa [← ht] using hl
  have hlu : ((t.withPhase .rendering).withResult 0).configLegal Config.rgx = true := by
    rw [State.withResult_configLegal, configLegal_withPhase hs (by decide), hlt]
  refine getPixel_eq_zero hlu fun x y => pixGet_eq_zero (by decide) (by simp) hlu fun a ha => ?_
  rw [State.withResult_pixelBytes, pixelBytes_withPhase hs (by decide)] at ha
  have hin : a < s.pixelBytes Config.rgx := by simpa [← ht] using ha
  rw [pixByte_withResult, pixByte_withPhase, ← ht, pixByte_withResult, pixByte_withPix_fill, if_pos hin]

end Sys2Proof.Machine
end

section
/-!
SUPPORT. Proofs of the pixel-by-pixel statements on the two blitters (spec 42_draw_sprite.md R160 to R168, 43_draw_tiles.md R180 to
R187). Both are a `Blit`: two axes and a value, or none, for each pair of indices. What a `Blit` does to pixel RAM is said once.
-/

namespace Sys2Proof.Machine

open Config (Params)

variable {p : Params} {s : State}

/-! ### Pixels after pixel writes (R46) -/

/-- `PixPut` sets its pixel to the value masked to a field, and keeps every other pixel of the screen (R43, R46). -/
theorem pixGetIn_pixPutIn {m : Memory 8} {x y a b v : Nat} (hp : 0 < p.strideAlign) (hs : s.phase ≠ .unconfigured)
    (hl : s.configLegal p = true) (hx : x < s.screenW.toNat) (ha : a < s.screenW.toNat) :
    pixGetIn p s (pixPutIn p s m x y v) a b =
      if a = x ∧ b = y then v % 2 ^ s.depth.toNat else pixGetIn p s m a b := by
  obtain ⟨-, -, -, -, -, -, hd, -⟩ := configLegal_iff.1 hl
  rw [pixGetIn, pixByteIn_pixPutIn]
  by_cases haddr : s.pixAddr p a b = s.pixAddr p x y
  · rw [if_pos haddr]
    by_cases hfield : fieldShift s.depth.toNat a = fieldShift s.depth.toNat x
    · obtain ⟨rfl, rfl⟩ := pixAddr_injective hp hs hl ha hx haddr hfield
      rw [unpack_pack_same hd, if_pos ⟨rfl, rfl⟩]
    · rw [unpack_pack_other hd hfield, if_neg fun ⟨hax, _⟩ => hfield (hax ▸ rfl), pixGetIn]
  · rw [if_neg haddr, if_neg fun ⟨hax, hby⟩ => haddr (hax ▸ hby ▸ rfl), pixGetIn]

theorem putAll_cons (w : PixelWrite) (ws : List PixelWrite) (m : Memory 8) :
    putAll p s (w :: ws) m = putAll p s ws (pixPutIn p s m w.1 w.2.1 w.2.2) := rfl

/-- Pixel writes keep every pixel of the screen that none of them writes. -/
theorem pixGetIn_putAll_other {ws : List PixelWrite} {m : Memory 8} {a b : Nat} (hp : 0 < p.strideAlign)
    (hs : s.phase ≠ .unconfigured) (hl : s.configLegal p = true) (hscreen : ∀ w ∈ ws, w.1 < s.screenW.toNat)
    (ha : a < s.screenW.toNat) (hne : ∀ w ∈ ws, ¬ (a = w.1 ∧ b = w.2.1)) :
    pixGetIn p s (putAll p s ws m) a b = pixGetIn p s m a b := by
  induction ws generalizing m with
  | nil => rfl
  | cons w ws ih =>
    rw [List.forall_mem_cons] at hscreen hne
    rw [putAll_cons, ih hscreen.2 hne.2, pixGetIn_pixPutIn hp hs hl hscreen.1 ha, if_neg hne.1]

/-- A pixel written reads as its value, if all writes to it have that value. -/
theorem pixGetIn_putAll_mem {ws : List PixelWrite} {m : Memory 8} {a b v : Nat} (hp : 0 < p.strideAlign)
    (hs : s.phase ≠ .unconfigured) (hl : s.configLegal p = true) (hscreen : ∀ w ∈ ws, w.1 < s.screenW.toNat)
    (hmem : (a, b, v) ∈ ws) (hval : ∀ w ∈ ws, a = w.1 ∧ b = w.2.1 → w.2.2 = v) :
    pixGetIn p s (putAll p s ws m) a b = v % 2 ^ s.depth.toNat := by
  have ha : a < s.screenW.toNat := hscreen _ hmem
  induction ws generalizing m with
  | nil => exact nomatch hmem
  | cons w ws ih =>
    rw [List.forall_mem_cons] at hscreen hval
    rw [putAll_cons]
    by_cases hlater : (a, b, v) ∈ ws
    · exact ih hscreen.2 hlater hval.2
    · obtain rfl : (a, b, v) = w := (List.mem_cons.1 hmem).resolve_right hlater
      rw [pixGetIn_putAll_other hp hs hl hscreen.2 ha, pixGetIn_pixPutIn hp hs hl hscreen.1 ha, if_pos ⟨rfl, rfl⟩]
      rintro ⟨a', b', v'⟩ hu ⟨rfl, rfl⟩
      obtain rfl : v' = v := hval.2 _ hu ⟨rfl, rfl⟩
      exact hlater hu

/-! ### One axis (R161, R162) -/

/-- Normalising the origin of an axis keeps its residue modulo the canvas (R161). -/
theorem normalize_emod (coord : Int) (dim : Nat) : normalize coord dim % dim = coord % dim := by
  have hdvd : (dim : Int) ∣ coord.tmod dim - coord := Int.dvd_tmod_sub_self
  have htmod : coord.tmod dim % dim = coord % dim := Int.emod_eq_emod_iff_emod_sub_eq_zero.2 (Int.emod_eq_zero_of_dvd hdvd)
  unfold normalize
  split
  · exact htmod
  · rw [Int.add_emod_left, htmod]

/-- Normalising the origin changes no destination (R161, R162). -/
theorem dest_axisOrigin (coord : Int) (k : Nat) (wrap : Bool) (canvas screen : Nat) :
    dest (axisOrigin coord wrap canvas) k wrap canvas screen = dest coord k wrap canvas screen := by
  cases wrap with
  | false => rfl
  | true =>
    have hmod : (normalize coord canvas + k) % canvas = (coord + k) % canvas :=
      Int.add_emod_eq_add_emod_right _ (normalize_emod coord canvas)
    simp only [dest, axisOrigin, if_true, hmod]

/-- Indices less than a canvas apart have distinct destinations (R162). -/
theorem dest_injective {o : Int} {wrap : Bool} {canvas screen k j d : Nat} (hk : k < canvas) (hj : j < canvas)
    (h : dest o k wrap canvas screen = some d) (h' : dest o j wrap canvas screen = some d) : k = j := by
  have hpos : (0 : Int) < canvas := by omega
  cases wrap with
  | false =>
    simp only [dest, Bool.false_eq_true, if_false, Option.ite_none_right_eq_some, Option.some.injEq] at h h'
    omega
  | true =>
    simp only [dest, if_true, Option.ite_none_right_eq_some, Option.some.injEq] at h h'
    have hk0 := Int.emod_nonneg (o + k) hpos.ne'
    have hj0 := Int.emod_nonneg (o + j) hpos.ne'
    have hmod : (o + k) % canvas = (o + j) % canvas := by omega
    have hres : (k : Int) % canvas = j % canvas := Int.emod_add_cancel_left.1 hmod
    rw [Int.emod_eq_of_lt (by omega) (by omega), Int.emod_eq_of_lt (by omega) (by omega)] at hres
    omega

/-! ### Both blitters at once -/

/-- A blit: its two axes, how many indices each has, and the value written for a pair of indices, none where the pair is skipped. -/
structure Blit where
  x : Int
  y : Int
  hwrap : Bool
  vwrap : Bool
  cols : Nat
  rows : Nat
  value : Nat → Nat → Option Nat

namespace Blit

/-- The x-axis destination of column index `k` (R162). -/
def destX (s : State) (b : Blit) (k : Nat) : Option Nat := dest b.x k b.hwrap s.canvasW.toNat s.screenW.toNat

/-- The y-axis destination of row index `j` (R162). -/
def destY (s : State) (b : Blit) (j : Nat) : Option Nat := dest b.y j b.vwrap s.canvasH.toNat s.screenH.toNat

/-- The plot of one pair of indices at its destination. -/
def plot (p : Params) (s : State) (b : Blit) (k j dx dy : Nat) (m : Memory 8) : Memory 8 :=
  (b.value k j).elim m (pixPutIn p s m dx dy)

/-- The loops of a blit, with normalised origins, `continue` and `break` (R160, R180). -/
def loops (p : Params) (s : State) (b : Blit) : Memory 8 :=
  axisLoop (axisStep (axisOrigin b.y b.vwrap s.canvasH.toNat) b.vwrap s.canvasH.toNat s.screenH.toNat)
    (fun j dy m =>
      axisLoop (axisStep (axisOrigin b.x b.hwrap s.canvasW.toNat) b.hwrap s.canvasW.toNat s.screenW.toNat)
        (fun k dx m => b.plot p s k j dx dy m) (List.range b.cols) m)
    (List.range b.rows) s.pix

/-- The pixel written for a pair of indices, if any (R167, R187). -/
def write (s : State) (b : Blit) (k j : Nat) : Option PixelWrite :=
  (b.destX s k).bind fun dx => (b.destY s j).bind fun dy => (b.value k j).map fun v => (dx, dy, v)

/-- All pixel writes of a blit, in order. -/
def writes (s : State) (b : Blit) : List PixelWrite :=
  (List.range b.rows).flatMap fun j => (List.range b.cols).filterMap fun k => b.write s k j

/-- The loops write what the loop-free form writes (R168): `break` and normalisation change nothing. -/
theorem loops_eq_putAll (p : Params) (s : State) (b : Blit) : b.loops p s = putAll p s (b.writes s) s.pix := by
  have hrange (n : Nat) : (List.range n).Pairwise (· ≤ ·) := List.pairwise_le_range
  simp only [loops, writes, putAll, axisLoop_eq_foldl _ _ _ _ _ _ (hrange _), dest_axisOrigin, List.foldl_flatMap,
    List.foldl_filterMap]
  congr 1
  funext m j
  cases hy : b.destY s j with
  | none =>
    rw [destY] at hy
    simp [write, destY, hy]
  | some dy =>
    rw [destY] at hy
    simp only [write, destY, hy, Option.bind_some]
    congr 1
    funext m k
    rw [← destX]
    cases b.destX s k with
    | none => rfl
    | some dx => cases hv : b.value k j <;> simp [plot, hv]

variable {b : Blit}

theorem write_eq_some {k j : Nat} {w : PixelWrite} :
    b.write s k j = some w ↔ b.destX s k = some w.1 ∧ b.destY s j = some w.2.1 ∧ b.value k j = some w.2.2 := by
  simp only [write, Option.bind_eq_some_iff, Option.map_eq_some_iff]
  constructor
  · rintro ⟨dx, hx, dy, hy, v, hv, rfl⟩
    exact ⟨hx, hy, hv⟩
  · rintro ⟨hx, hy, hv⟩
    exact ⟨_, hx, _, hy, _, hv, rfl⟩

/-- A pixel write of a blit is that of one pair of indices. -/
theorem mem_writes {w : PixelWrite} :
    w ∈ b.writes s ↔ ∃ k < b.cols, ∃ j < b.rows,
      b.destX s k = some w.1 ∧ b.destY s j = some w.2.1 ∧ b.value k j = some w.2.2 := by
  simp only [writes, List.mem_flatMap, List.mem_filterMap, List.mem_range, write_eq_some]
  constructor
  · rintro ⟨j, hj, k, hk, h⟩
    exact ⟨k, hk, j, hj, h⟩
  · rintro ⟨k, hk, j, hj, h⟩
    exact ⟨j, hj, k, hk, h⟩

/-- A blit with no more indices on an axis than the canvas has pixels there. -/
structure Fits (s : State) (b : Blit) : Prop where
  cols_le : b.cols ≤ s.canvasW.toNat
  rows_le : b.rows ≤ s.canvasH.toNat

theorem Fits.destX_injective (hb : b.Fits s) {k k' d : Nat} (hk : k < b.cols) (hk' : k' < b.cols)
    (h : b.destX s k = some d) (h' : b.destX s k' = some d) : k = k' :=
  dest_injective (hk.trans_le hb.cols_le) (hk'.trans_le hb.cols_le) h h'

theorem Fits.destY_injective (hb : b.Fits s) {j j' d : Nat} (hj : j < b.rows) (hj' : j' < b.rows)
    (h : b.destY s j = some d) (h' : b.destY s j' = some d) : j = j' :=
  dest_injective (hj.trans_le hb.rows_le) (hj'.trans_le hb.rows_le) h h'

section Pixels

variable (hp : 0 < p.strideAlign) (hs : s.phase ≠ .unconfigured) (hl : s.configLegal p = true)

include hl in
theorem writes_on_screen : ∀ w ∈ b.writes s, w.1 < s.screenW.toNat := by
  intro w hw
  obtain ⟨k, -, j, -, hx, -, -⟩ := mem_writes.1 hw
  obtain ⟨⟨-, hcw, -⟩, -⟩ := configLegal_iff.1 hl
  exact dest_lt_screen (by omega) hx

include hp hs hl

/-- A pair of indices with a destination and a value sets its pixel to the value, masked to a field. -/
theorem pixGetIn_loops_of_value (hb : b.Fits s) {k j dx dy v : Nat} (hk : k < b.cols) (hj : j < b.rows)
    (hx : b.destX s k = some dx) (hy : b.destY s j = some dy) (hv : b.value k j = some v) :
    pixGetIn p s (b.loops p s) dx dy = v % 2 ^ s.depth.toNat := by
  rw [loops_eq_putAll]
  refine pixGetIn_putAll_mem hp hs hl (writes_on_screen hl) (mem_writes.2 ⟨k, hk, j, hj, hx, hy, hv⟩) ?_
  rintro ⟨dx', dy', v'⟩ hw ⟨rfl, rfl⟩
  obtain ⟨k', hk', j', hj', hx', hy', hv'⟩ := mem_writes.1 hw
  obtain rfl := hb.destX_injective hk hk' hx hx'
  obtain rfl := hb.destY_injective hj hj' hy hy'
  exact Option.some.inj (hv'.symm.trans hv)

/-- A pixel that is the destination of no pair with a value keeps its value. -/
theorem pixGetIn_loops_other {dx dy : Nat} (hdx : dx < s.screenW.toNat)
    (hskip : ∀ k < b.cols, ∀ j < b.rows, b.destX s k = some dx → b.destY s j = some dy → b.value k j = none) :
    pixGetIn p s (b.loops p s) dx dy = pixGet p s dx dy := by
  rw [loops_eq_putAll]
  refine pixGetIn_putAll_other hp hs hl (writes_on_screen hl) hdx ?_
  rintro ⟨dx', dy', v⟩ hw ⟨rfl, rfl⟩
  obtain ⟨k, hk, j, hj, hx, hy, hv⟩ := mem_writes.1 hw
  exact nomatch (hskip k hk j hj hx hy).symm.trans hv

end Pixels

/-- A byte that holds no destination keeps its value. -/
theorem pixByteIn_loops_other {a : Nat} (h : ∀ k < b.cols, ∀ j < b.rows, ∀ dx dy, b.destX s k = some dx →
    b.destY s j = some dy → a ≠ s.pixAddr p dx dy) : pixByteIn s.ramEpoch (b.loops p s) a = pixByte s a := by
  rw [loops_eq_putAll]
  refine pixByteIn_putAll_other p s _ _ fun w hw => ?_
  obtain ⟨k, hk, j, hj, hx, hy, -⟩ := mem_writes.1 hw
  exact h k hk j hj _ _ hx hy

end Blit

/-! ### Operands of the blitters -/

/-- A pointer is null exactly if its address is 0 (R75). -/
theorem toNat_ne_zero {a : Word} : a.toNat ≠ 0 ↔ a ≠ 0 := by simp [← BitVec.toNat_inj]

/-- Masking to `colour_count − 1` keeps the low `depth` bits (R18, R75). -/
theorem maskColour_eq (hs : s.phase ≠ .unconfigured) (v : Nat) : s.maskColour v = v % 2 ^ s.depth.toNat := by
  rw [State.maskColour, State.colourCount, if_neg hs, Nat.and_two_pow_sub_one_eq_mod]

/-! ### DRAW_SPRITE (R160 to R167) -/

/-- DRAW_SPRITE as a blit: 8 by 8 samples, those of value 0 skipped (R163 to R165). -/
def spriteBlit (p : Params) (s : State) (a : SpriteArgs) : Blit where
  x := a.x
  y := a.y
  hwrap := a.hwrap
  vwrap := a.vwrap
  cols := 8
  rows := 8
  value sx sy := if spriteSample s a sx sy = 0 then none else some (spriteColour p s a (spriteSample s a sx sy))

theorem spriteLoops_eq (p : Params) (s : State) (a : SpriteArgs) : spriteLoops p s a = (spriteBlit p s a).loops p s := by
  have hplot : spritePlot p s a = (spriteBlit p s a).plot p s := by
    funext sx sy dx dy m
    simp only [spritePlot, Blit.plot, spriteBlit]
    split <;> rfl
  rw [spriteLoops, hplot]
  rfl

theorem spriteBlit_fits (hl : s.configLegal p = true) (a : SpriteArgs) : (spriteBlit p s a).Fits s := by
  obtain ⟨⟨-, hcw, -⟩, ⟨-, hch, -⟩, -⟩ := configLegal_iff.1 hl
  exact ⟨hcw, hch⟩

/-- The value of a sprite's sample, through its table if it has one (R165). -/
theorem spriteColour_eq (hs : s.phase ≠ .unconfigured) (a : SpriteArgs) (v : Nat) :
    spriteColour p s a v =
      (if a.palette ≠ 0 then (hostByteAt p s (a.palette + v)).toNat else v) % 2 ^ s.depth.toNat := maskColour_eq hs _

/-- Settles O51: DRAW_SPRITE is a blit of 8 by 8 samples. -/
theorem drawSpritePixels : Obligations.DrawSpritePixels := by
  refine ⟨fun w => decode_drawSprite, fun x y pattern palette hflip vflip hwrap vwrap s hph hl => ?_⟩
  have hp : 0 < Config.rgx.strideAlign := by decide
  have hs : s.phase ≠ .unconfigured := by simp [hph]
  have hb := spriteBlit_fits hl ⟨x, y, pattern.toNat, palette.toNat, hflip, vflip, hwrap, vwrap⟩
  refine ⟨_, drawSprite_next.2 (.inl ⟨hph, hl, rfl⟩), ?_, fun _ _ _ => hb.destX_injective, fun _ _ _ => hb.destY_injective,
    ?_, ?_, rfl⟩
  all_goals rw [spriteLoops_eq]
  · rintro sx sy a b v hsx hsy hx hy rfl hne
    refine (Blit.pixGetIn_loops_of_value hp hs hl hb hsx hsy hx hy (if_neg hne)).trans ?_
    rw [spriteColour_eq hs, Nat.mod_mod]
    simp only [toNat_ne_zero]
    rfl
  · intro a b ha _ hskip
    refine Blit.pixGetIn_loops_other hp hs hl ha fun sx hsx sy hsy hx hy => ?_
    exact if_pos (hskip sx sy hsx hsy hx hy)
  · intro adr hadr
    exact Blit.pixByteIn_loops_other fun sx hsx sy hsy a b => hadr sx sy a b hsx hsy

/-! ### DRAW_TILES (R180 to R187) -/

/-- DRAW_TILES as a blit of every canvas row and column; with `transparent`, samples of value 0 are skipped (R185). -/
def gridBlit (p : Params) (s : State) (a : TileArgs) : Blit where
  x := a.x
  y := a.y
  hwrap := a.hwrap
  vwrap := a.vwrap
  cols := s.canvasW.toNat
  rows := s.canvasH.toNat
  value col row :=
    if gridSample p s a col row = 0 ∧ a.transparent = true then none else some (gridColour p s a col row)

theorem gridLoops_eq (p : Params) (s : State) (a : TileArgs) : gridLoops p s a = (gridBlit p s a).loops p s := by
  have hplot : gridPlot p s a = (gridBlit p s a).plot p s := by
    funext col row dx dy m
    simp only [gridPlot, Blit.plot, gridBlit]
    split <;> rfl
  rw [gridLoops, hplot]
  rfl

theorem gridBlit_fits (p : Params) (s : State) (a : TileArgs) : (gridBlit p s a).Fits s := ⟨Nat.le_refl _, Nat.le_refl _⟩

/-- The tile of a grid pixel, by division (R182). -/
theorem gridTile_eq (p : Params) (s : State) (a : TileArgs) (col row : Nat) :
    gridTile p s a col row = tileAt p s a.tiles (col / 8) (row / 8) := by
  simp only [gridTile, Nat.shiftRight_eq_div_pow, Nat.reducePow]

/-- The sample of a grid pixel, by remainder (R182, R184). -/
theorem gridSample_eq (p : Params) (s : State) (a : TileArgs) (col row : Nat) :
    gridSample p s a col row =
      patSample s (tileAt p s a.tiles (col / 8) (row / 8)).pattern
        (flipped (tileAt p s a.tiles (col / 8) (row / 8)).hflip (col % 8))
        (flipped (tileAt p s a.tiles (col / 8) (row / 8)).vflip (row % 8)) := by
  have hmod (n : Nat) : n &&& 7 = n % 8 := Nat.and_two_pow_sub_one_eq_mod n 3
  rw [gridSample, gridTile_eq, hmod, hmod]

/-- The value of a grid pixel, through the table of its tile (R185). -/
theorem gridColour_eq (hs : s.phase ≠ .unconfigured) (a : TileArgs) (col row : Nat) :
    gridColour p s a col row =
      (hostByteAt p s (a.palettes + (tileAt p s a.tiles (col / 8) (row / 8)).palette * 2 ^ s.depth.toNat +
        gridSample p s a col row)).toNat % 2 ^ s.depth.toNat := by
  rw [gridColour, maskColour_eq hs, remapT, State.colourCount, if_neg hs, gridTile_eq]

/-- Settles O52: DRAW_TILES is a blit of every grid pixel of the canvas. -/
theorem drawTilesPixels : Obligations.DrawTilesPixels := by
  refine ⟨fun w => decode_drawTiles,
    fun x y tiles palettes hwrap vwrap transparent s hph hl htiles hpalettes => ?_⟩
  have hp : 0 < Config.rgx.strideAlign := by decide
  have hs : s.phase ≠ .unconfigured := by simp [hph]
  have hb := gridBlit_fits Config.rgx s ⟨x, y, tiles.toNat, palettes.toNat, hwrap, vwrap, transparent⟩
  refine ⟨_, drawTiles_next.2 (.inr ⟨hph, toNat_ne_zero.2 htiles, toNat_ne_zero.2 hpalettes, hl, rfl⟩), ?_,
    fun _ _ _ => hb.destX_injective, fun _ _ _ => hb.destY_injective, ?_, ?_, rfl⟩
  all_goals rw [gridLoops_eq]
  · rintro col row a b tile v hcol hrow hx hy rfl rfl hdrawn
    refine (Blit.pixGetIn_loops_of_value hp hs hl hb hcol hrow hx hy (if_neg ?_)).trans ?_
    · rwa [gridSample_eq]
    · rw [gridColour_eq hs, gridSample_eq, Nat.mod_mod]
      rfl
  · intro a b ha _ hskip
    refine Blit.pixGetIn_loops_other hp hs hl ha fun col hcol row hrow hx hy => ?_
    obtain ⟨htransparent, hzero⟩ := hskip col row _ hcol hrow hx hy rfl
    exact if_pos ⟨(gridSample_eq ..).trans hzero, htransparent⟩
  · intro adr hadr
    exact Blit.pixByteIn_loops_other fun col hcol row hrow a b => hadr col row a b hcol hrow

end Sys2Proof.Machine
end

section
/-!
SUPPORT. Proofs of the statements on the row and pattern forms of the codec and on the round trip of a pattern through pattern RAM
(spec 40_pixel_codec_and_pattern_store.md R101, R107).
-/

namespace Sys2Proof.Machine

variable {d : Nat}

/-! ### One sample of a packed row (R101) -/

/-- Sample `c` of a packed row. -/
def rowSample (d : Nat) (row : List Byte) (c : Nat) : Nat := unpack d (row.getD (byteOff d c) 0) c

theorem unpackRow_eq_map_rowSample (d : Nat) (row : List Byte) : unpackRow d row = (List.range 8).map (rowSample d row) := rfl

@[simp] theorem length_unpackRow (d : Nat) (row : List Byte) : (unpackRow d row).length = 8 := by simp [unpackRow]

@[simp] theorem getElem_unpackRow (d : Nat) (row : List Byte) {c : Nat} (h : c < (unpackRow d row).length) :
    (unpackRow d row)[c] = rowSample d row c := by
  simp [unpackRow_eq_map_rowSample]

/-- Eight samples lie in `d` bytes. -/
theorem byteOff_lt (hd : d ∈ [1, 2, 4, 8]) {c : Nat} (hc : c < 8) : byteOff d c < d := by
  rcases depth_cases hd with rfl | rfl | rfl | rfl <;> simp only [byteOff] <;> omega

/-- Every bit of a packed row lies in the field of one of its eight samples. -/
theorem exists_field_of_bit (hd : d ∈ [1, 2, 4, 8]) {a i : Nat} (ha : a < d) (hi : i < 8) :
    ∃ c < 8, byteOff d c = a ∧ fieldShift d c ≤ i ∧ i < fieldShift d c + d := by
  refine ⟨a * ppb d + (7 - i) / d, ?_⟩
  rcases depth_cases hd with rfl | rfl | rfl | rfl <;> simp only [byteOff, fieldShift, ppb] <;> omega

/-- Packed rows with the same samples are the same bytes. -/
theorem unpackRow_injective (hd : d ∈ [1, 2, 4, 8]) {row row' : List Byte} (hrow : row.length = d) (hrow' : row'.length = d)
    (h : unpackRow d row = unpackRow d row') : row = row' := by
  refine List.ext_getElem (hrow.trans hrow'.symm) fun a ha ha' => BitVec.eq_of_getLsbD_eq fun i hi => ?_
  obtain ⟨c, hc, rfl, hle, hlt⟩ := exists_field_of_bit hd (hrow ▸ ha) hi
  have hsample : rowSample d row c = rowSample d row' c := List.map_inj_left.1 h c (List.mem_range.2 hc)
  have hbit := congrArg (Nat.testBit · (i - fieldShift d c)) hsample
  simpa only [rowSample, testBit_unpack, List.getD_eq_getElem _ _ ha, List.getD_eq_getElem _ _ ha',
    show i - fieldShift d c < d by omega, Nat.add_sub_cancel' hle, decide_true, Bool.true_and] using hbit

/-! ### Packing a row (R101) -/

@[simp] theorem length_packInto (d : Nat) (samples : List Nat) (row : List Byte) (c : Nat) :
    (packInto d samples row c).length = row.length := List.length_set

/-- Putting sample `k` into a row changes that sample alone. -/
theorem rowSample_packInto (hd : d ∈ [1, 2, 4, 8]) (samples : List Nat) {row : List Byte} {k : Nat}
    (hk : byteOff d k < row.length) (c : Nat) :
    rowSample d (packInto d samples row k) c = if c = k then samples.getD k 0 % 2 ^ d else rowSample d row c := by
  by_cases hbyte : byteOff d c = byteOff d k
  · have hget : (packInto d samples row k).getD (byteOff d c) 0 =
        pack d (row.getD (byteOff d c) 0) k (samples.getD k 0) := by
      rw [hbyte, packInto, List.getD_eq_getElem?_getD, List.getElem?_set_self hk, Option.getD_some]
    rw [rowSample, hget]
    split
    · subst c
      exact unpack_pack_same hd ..
    · rename_i hne
      exact unpack_pack_other hd (fun hfield => hne (eq_of_byteOff_fieldShift hd hbyte hfield)) ..
  · have hne : c ≠ k := fun h => hbyte (congrArg (byteOff d) h)
    rw [if_neg hne, rowSample, packInto, List.getD_eq_getElem?_getD, List.getElem?_set_ne (Ne.symm hbyte),
      ← List.getD_eq_getElem?_getD, rowSample]

/-- The row after the first `n` samples have been put into `d` zero bytes; `packRow` is `packFirst` of all eight. -/
def packFirst (d : Nat) (samples : List Nat) (n : Nat) : List Byte :=
  (List.range n).foldl (packInto d samples) (List.replicate d 0)

theorem packRow_eq_packFirst (d : Nat) (samples : List Nat) : packRow d samples = packFirst d samples 8 := rfl

theorem packFirst_succ (d : Nat) (samples : List Nat) (n : Nat) :
    packFirst d samples (n + 1) = packInto d samples (packFirst d samples n) n := by
  simp [packFirst, List.range_succ]

@[simp] theorem length_packFirst (d : Nat) (samples : List Nat) (n : Nat) : (packFirst d samples n).length = d := by
  induction n with
  | zero => exact List.length_replicate
  | succ n ih => rw [packFirst_succ, length_packInto, ih]

/-- Each sample put so far reads back as its value masked to the field. -/
theorem rowSample_packFirst (hd : d ∈ [1, 2, 4, 8]) (samples : List Nat) {n c : Nat} (hn : n ≤ 8) (hc : c < n) :
    rowSample d (packFirst d samples n) c = samples.getD c 0 % 2 ^ d := by
  induction n with
  | zero => omega
  | succ n ih =>
    have hbyte : byteOff d n < (packFirst d samples n).length := (length_packFirst ..).symm ▸ byteOff_lt hd hn
    rw [packFirst_succ, rowSample_packInto hd samples hbyte]
    split
    · subst c; rfl
    · exact ih (by omega) (by omega)

@[simp] theorem length_packRow (d : Nat) (samples : List Nat) : (packRow d samples).length = d := length_packFirst d samples 8

/-- Unpacking a packed row gives the masked samples. -/
theorem unpackRow_packRow (hd : d ∈ [1, 2, 4, 8]) {samples : List Nat} (hlen : samples.length = 8) :
    unpackRow d (packRow d samples) = samples.map (· % 2 ^ d) := by
  refine List.ext_getElem (by simp [hlen]) fun c hc _ => ?_
  rw [length_unpackRow] at hc
  rw [getElem_unpackRow, packRow_eq_packFirst, rowSample_packFirst hd samples (Nat.le_refl 8) hc,
    List.getD_eq_getElem _ _ (hlen.symm ▸ hc), List.getElem_map]

/-- Masking leaves unpacked samples alone: they fit their fields. -/
theorem map_mod_unpackRow (d : Nat) (row : List Byte) : (unpackRow d row).map (· % 2 ^ d) = unpackRow d row := by
  rw [unpackRow_eq_map_rowSample, List.map_map]
  exact List.map_congr_left fun c _ => Nat.mod_eq_of_lt (unpack_lt ..)

/-- Packing an unpacked row gives its bytes back: both rows have the same samples. -/
theorem packRow_unpackRow (hd : d ∈ [1, 2, 4, 8]) {row : List Byte} (hrow : row.length = d) :
    packRow d (unpackRow d row) = row :=
  unpackRow_injective hd (length_packRow ..) hrow <| by
    rw [unpackRow_packRow hd (length_unpackRow ..), map_mod_unpackRow]

/-- At depth 8 a sample is its byte. -/
theorem unpackRow_eight {row : List Byte} (hrow : row.length = 8) : unpackRow 8 row = row.map BitVec.toNat := by
  refine List.ext_getElem (by simp [hrow]) fun c _ hc => ?_
  rw [List.length_map] at hc
  have hoff : byteOff 8 c = c := Nat.mul_div_cancel c (by decide)
  have hshift : fieldShift 8 c = 0 := by simp [fieldShift, ppb, Nat.mod_one]
  rw [getElem_unpackRow, rowSample, hoff, List.getD_eq_getElem _ _ hc, List.getElem_map, unpack, hshift, Nat.shiftRight_zero,
    fmask, Nat.and_two_pow_sub_one_eq_mod, Nat.mod_eq_of_lt row[c].isLt]

/-! ### Patterns as eight rows (R101) -/

/-- Blocks of `m` elements laid end to end: block `r` starts at `m * r`. -/
theorem take_drop_flatMap_range {α : Type} {f : Nat → List α} {m : Nat} (hf : ∀ r, (f r).length = m) {n r : Nat}
    (hr : r < n) : (((List.range n).flatMap f).drop (m * r)).take m = f r := by
  induction n with
  | zero => omega
  | succ n ih =>
    have hlen : ((List.range n).flatMap f).length = m * n := by simp [hf, Nat.mul_comm]
    rw [List.range_succ, List.flatMap_append, List.flatMap_singleton]
    rcases Nat.lt_succ_iff_lt_or_eq.1 hr with hlt | rfl
    · have hfit : m * r + m ≤ m * n := by simpa only [Nat.mul_succ] using Nat.mul_le_mul_left m hlt
      rw [List.drop_append_of_le_length (by omega), List.take_append_of_le_length (by rw [List.length_drop]; omega), ih hlt]
    · rw [← hlen, List.drop_left, ← hf r, List.take_length]

/-- A list cut into blocks of `m` and joined again. -/
theorem flatMap_range_take_drop {α : Type} (q : List α) (m n : Nat) :
    ((List.range n).flatMap fun r => (q.drop (r * m)).take m) = q.take (n * m) := by
  induction n with
  | zero => simp
  | succ n ih => rw [List.range_succ, List.flatMap_append, List.flatMap_singleton, ih, Nat.succ_mul, List.take_add]

/-- Row `r` of an unpacked pattern. -/
theorem take_drop_unpackPattern (d : Nat) (q : List Byte) {r : Nat} (hr : r < 8) :
    ((unpackPattern d q).drop (8 * r)).take 8 = unpackRow d ((q.drop (r * d)).take d) :=
  take_drop_flatMap_range (fun _ => length_unpackRow ..) hr

/-- Packing an unpacked pattern gives its bytes back, row by row. -/
theorem packPattern_unpackPattern (hd : d ∈ [1, 2, 4, 8]) {q : List Byte} (hq : q.length = 8 * d) :
    packPattern d (unpackPattern d q) = q := by
  have hrow (r : Nat) (hr : r ∈ List.range 8) :
      packRow d (((unpackPattern d q).drop (8 * r)).take 8) = (q.drop (r * d)).take d := by
    rw [List.mem_range] at hr
    have hfit : r * d + d ≤ 8 * d := by simpa only [Nat.succ_mul] using Nat.mul_le_mul_right d hr
    rw [take_drop_unpackPattern d q hr, packRow_unpackRow hd (by rw [List.length_take, List.length_drop]; omega)]
  rw [packPattern, List.flatMap_congr hrow, flatMap_range_take_drop, ← hq, List.take_length]

/-- Settles O35. -/
theorem rowCodecLaws : Obligations.RowCodecLaws :=
  fun d hd => ⟨fun _ => unpackRow_packRow hd, fun _ => packRow_unpackRow hd, fun _ => packPattern_unpackPattern hd,
    by rintro rfl row; exact unpackRow_eight⟩

/-! ### The round trip of a pattern (R107) -/

/-- Settles O43: READ_PATTERN delivers the bytes of pattern RAM that WRITE_PATTERN has taken from host memory. -/
theorem patternRoundTrip : Obligations.PatternRoundTrip := by
  intro index bits src out s hph hl hsrc hout hbits
  obtain ⟨t, hwrite, hin, -, ht⟩ := writePatternCopiesIn.2 index bits src s hph hl hsrc hbits
  have hdepth : t.depth = s.depth := by rw [ht]; rfl
  have htph : t.phase ≠ .unconfigured := by rw [ht]; simp [hph]
  have htl : t.configLegal Config.rgx = true := by rw [ht]; simpa using hl
  obtain ⟨u, hread, hcopied, -⟩ := readPatternCopiesOut.2 index bits out t htph htl hout (hdepth ▸ hbits)
  rw [hdepth] at hcopied
  exact ⟨t, u, hwrite, hread, fun k hk => (hcopied k hk).trans (hin k hk)⟩

end Sys2Proof.Machine
end

section
/-!
SUPPORT. Proofs of the statements on the palette commands and on single pixels (spec 41_canvas_and_palette.md R130 to R139).
-/

namespace Sys2Proof.Machine

open Config (Params)

variable {p : Params} {s : State}

/-! ### Palette entries after writes (R21, R53) -/

/-- One entry of the palette is written, the others stay. -/
theorem palEntry_write (a i : Nat) (v : Colour) :
    palEntry (s.withPal (Memory.write s.pal a v)) i = if i = a then v else palEntry s i := by
  rw [palEntry, State.withPal_pal, Memory.read?_write]
  split <;> rfl

theorem palEntry_writeList {vs : List Colour} {i : Nat} (h : i < vs.length) :
    palEntry (s.withPal (Memory.writeList s.pal 0 vs)) i = vs[i] := by
  rw [palEntry, State.withPal_pal, Memory.read?_writeList, if_pos (by omega), Nat.sub_zero, List.getElem?_eq_getElem h]
  rfl

theorem palEntry_writeList_other {vs : List Colour} {i : Nat} (h : vs.length ≤ i) :
    palEntry (s.withPal (Memory.writeList s.pal 0 vs)) i = palEntry s i := by
  rw [palEntry, State.withPal_pal, Memory.read?_writeList, if_neg (by omega)]
  rfl

theorem length_paletteAt (hs : s.phase ≠ .unconfigured) (base : Nat) : (paletteAt p s base).length = 2 ^ s.depth.toNat := by
  simp [paletteAt, State.colourCount, hs]

/-- Red, green and blue of the colour word at an address; its byte 3 is not looked at. -/
theorem wordColour_hostRead (p : Params) (s : State) (a : Nat) :
    wordColour (hostRead p s a 4) = hostByteAt p s (a + 2) ++ hostByteAt p s (a + 1) ++ hostByteAt p s a := rfl

/-! ### The palette as bytes (R53, R136) -/

/-- Blocks of `m` elements laid end to end: element `j` of block `i`. -/
theorem getElem?_flatMap_range {α : Type} {f : Nat → List α} {m n i j : Nat} (hf : ∀ r, (f r).length = m) (hi : i < n)
    (hj : j < m) : ((List.range n).flatMap f)[m * i + j]? = (f i)[j]? := by
  rw [← take_drop_flatMap_range hf hi, List.getElem?_take_of_lt hj, List.getElem?_drop]

theorem length_paletteBytes (hs : s.phase ≠ .unconfigured) : (paletteBytes s).length = 4 * 2 ^ s.depth.toNat := by
  simp [paletteBytes, colourWord, State.colourCount, hs, Nat.mul_comm]

/-- The palette's bytes fit the address space of host memory (R52, R53). -/
theorem four_mul_two_pow_depth_le_hostSpace (s : State) : 4 * 2 ^ s.depth.toNat ≤ 2 ^ Config.rgx.hostAddrBits := by
  have hpow : 2 ^ s.depth.toNat ≤ 2 ^ 15 := Nat.pow_le_pow_right (by decide) (by have := s.depth.isLt; omega)
  rw [rgx_hostAddrBits]
  omega

/-- Byte `j` of the colour word stored for entry `i` (R53, R136). -/
theorem hostByteAt_paletteBytes (hs : s.phase ≠ .unconfigured) {a i j : Nat} (hi : i < 2 ^ s.depth.toNat) (hj : j < 4) :
    hostByteAt Config.rgx (s.withHostMem (hostWriteBytes Config.rgx s.hostMem a (paletteBytes s))) (a + 4 * i + j) =
      (colourWord (palEntry s i)).getD j 0 := by
  have hlen := length_paletteBytes hs
  have hk : 4 * i + j < (paletteBytes s).length := by omega
  have hword : (paletteBytes s)[4 * i + j]? = (colourWord (palEntry s i))[j]? :=
    getElem?_flatMap_range (fun _ => rfl) (by rwa [State.colourCount, if_neg hs]) hj
  rw [Nat.add_assoc, hostByteAt_hostWriteBytes hk (hlen.symm ▸ four_mul_two_pow_depth_le_hostSpace s),
    List.getD_eq_getElem?_getD, ← hword, List.getElem?_eq_getElem hk, Option.getD_some]

/-- Blue, green and red of a Colour put together from its three bytes (R21). -/
theorem extractLsb'_colour (red green blue : Byte) :
    (red ++ green ++ blue).extractLsb' 0 8 = blue ∧ (red ++ green ++ blue).extractLsb' 8 8 = green ∧
      (red ++ green ++ blue).extractLsb' 16 8 = red :=
  ⟨BitVec.extractLsb'_append_eq_right,
    (BitVec.extractLsb'_append_eq_of_le (by decide)).trans BitVec.extractLsb'_append_eq_right,
    (BitVec.extractLsb'_append_eq_of_le (by decide)).trans BitVec.extractLsb'_append_eq_left⟩

/-! ### The palette commands (R134 to R139) -/

/-- Settles O36. -/
theorem getColourReturnsEntry : Obligations.GetColourReturnsEntry := by
  refine ⟨fun w => decode_getColour, fun index s hs hl => getColour_next.2 (.inr ⟨hs, hl, ?_⟩),
    fun index s hs => getColour_next.2 (.inl ⟨hs, rfl⟩)⟩
  rw [maskColour_eq hs, BitVec.ofNat_toNat]

/-- Settles O37. -/
theorem setColourWritesEntry : Obligations.SetColourWritesEntry := by
  refine ⟨fun w => decode_setColour, fun index colour s hph hl => ?_,
    fun index colour s hph => setColour_next.2 (.inr ⟨hph, rfl⟩)⟩
  rw [← maskColour_eq (by simp [hph])]
  exact ⟨_, setColour_next.2 (.inl ⟨hph, hl, rfl⟩), (palEntry_write ..).trans (if_pos rfl),
    fun i hi => (palEntry_write ..).trans (if_neg hi), rfl⟩

/-- Settles O38: READ_PALETTE stores the palette's bytes by `MemWrite`. -/
theorem readPaletteStoresWords : Obligations.ReadPaletteStoresWords := by
  refine ⟨fun w => decode_readPalette, fun out s hs hl hout => ?_,
    fun out s hguard => readPalette_next.2 (.inl ⟨hguard, rfl⟩)⟩
  refine ⟨_, readPalette_next.2 (.inr ⟨hs, hout, hl, rfl⟩), fun i hi => ?_, fun a ha => ?_, rfl⟩
  · have hbyte {j : Nat} (hj : j < 4) := hostByteAt_paletteBytes hs (a := out.toNat) hi hj
    exact ⟨hbyte (j := 0) (by decide), hbyte (j := 1) (by decide), hbyte (j := 2) (by decide), hbyte (j := 3) (by decide)⟩
  · exact hostByteAt_hostWriteBytes_other (length_paletteBytes hs ▸ ha)

/-- Settles O39: WRITE_PALETTE writes the buffer's Colours from entry 0 up. -/
theorem writePaletteLoadsEntries : Obligations.WritePaletteLoadsEntries := by
  refine ⟨fun w => decode_writePalette, fun src s hph hl hsrc => ?_,
    fun src s hguard => writePalette_next.2 (.inl ⟨hguard, rfl⟩)⟩
  have hlen := length_paletteAt (p := Config.rgx) (s := s) (by simp [hph]) src.toNat
  refine ⟨_, writePalette_next.2 (.inr ⟨hph, hsrc, hl, rfl⟩), fun i hi => ?_, fun i hi => ?_, rfl⟩
  · refine (palEntry_writeList (hlen.symm ▸ hi)).trans ?_
    simp only [paletteAt, List.getElem_map, List.getElem_range, wordColour_hostRead]
  · exact palEntry_writeList_other (hlen.symm ▸ hi)

/-- Settles O40: READ_PALETTE takes apart the Colours that WRITE_PALETTE has put together from the words in host memory. -/
theorem paletteRoundTrip : Obligations.PaletteRoundTrip := by
  intro src out s hph hl hsrc hout
  obtain ⟨t, hwrite, hloaded, -, ht⟩ := writePaletteLoadsEntries.2.1 src s hph hl hsrc
  have hdepth : t.depth = s.depth := by rw [ht]; rfl
  have htph : t.phase ≠ .unconfigured := by rw [ht]; simp [hph]
  have htl : t.configLegal Config.rgx = true := by rw [ht]; simpa using hl
  obtain ⟨u, hread, hstored, -⟩ := readPaletteStoresWords.2.1 out t htph htl hout
  rw [hdepth] at hstored
  refine ⟨t, u, hwrite, hread, fun i hi => ?_⟩
  obtain ⟨hblue, hgreen, hred, hzero⟩ := hstored i hi
  rw [hloaded i hi] at hblue hgreen hred
  obtain ⟨hblue', hgreen', hred'⟩ := extractLsb'_colour (hostByteAt Config.rgx s (src.toNat + 4 * i + 2))
    (hostByteAt Config.rgx s (src.toNat + 4 * i + 1)) (hostByteAt Config.rgx s (src.toNat + 4 * i))
  refine ⟨fun j hj => ?_, hzero⟩
  interval_cases j
  · exact hblue.trans hblue'
  · exact hgreen.trans hgreen'
  · exact hred.trans hred'

/-! ### Single pixels (R130 to R133) -/

/-- A sample as quotient and remainder of its byte (R43). -/
theorem unpack_eq_div_mod (d : Nat) (b : Byte) (k : Nat) :
    unpack d b k = b.toNat / 2 ^ (8 - d * (k % (8 / d) + 1)) % 2 ^ d := by
  rw [unpack, fmask, Nat.and_two_pow_sub_one_eq_mod, Nat.shiftRight_eq_div_pow, fieldShift, ppb]

theorem inScreen_natCast {x y : Nat} (hx : x < s.screenW.toNat) (hy : y < s.screenH.toNat) : s.inScreen x y := by
  omega

/-- In another phase or off the screen the guard of GET_PIXEL and SET_PIXEL fails (R130, R132). -/
theorem not_phase_and_inScreen {ph : Phase} {x y : Int}
    (h : s.phase ≠ ph ∨ x < 0 ∨ (s.screenW.toNat : Int) ≤ x ∨ y < 0 ∨ (s.screenH.toNat : Int) ≤ y) :
    ¬ (s.phase = ph ∧ s.inScreen x y) := by
  rintro ⟨hph, hscreen⟩
  have hoff := h.resolve_left (not_not.2 hph)
  omega

theorem getPixel_of_rendering {x y : Nat} (hph : s.phase = .rendering) (hl : s.configLegal p = true)
    (hx : x < s.screenW.toNat) (hy : y < s.screenH.toNat) :
    getPixel p x y s = .next (s.withResult (BitVec.ofNat 32 (pixGet p s x y))) :=
  getPixel_next.2 (.inl ⟨hph, inScreen_natCast hx hy, hl, rfl⟩)

/-- Moving the phase between configured phases changes no pixel (R208, R210). -/
theorem pixGet_withPhase {b : Phase} (hs : s.phase ≠ .unconfigured) (hb : b ≠ .unconfigured) (x y : Nat) :
    pixGet p (s.withPhase b) x y = pixGet p s x y := by
  simp only [pixGet, pixGetIn, State.pixAddr, stride_withPhase hs hb, State.withPhase_depth, State.withPhase_pix,
    State.withPhase_ramEpoch]

/-- Settles O44. -/
theorem getPixelReturnsSample : Obligations.GetPixelReturnsSample :=
  ⟨fun _ => decode_getPixel,
    fun x y s hph hl hx hy =>
      ⟨pixGet Config.rgx s x y, unpack_lt .., getPixel_of_rendering hph hl hx hy, unpack_eq_div_mod ..⟩,
    fun _ _ _ h => getPixel_next.2 (.inr ⟨not_phase_and_inScreen h, rfl⟩)⟩

/-- Settles O45: SET_PIXEL is one `PixPut`. -/
theorem setPixelWritesOneField : Obligations.SetPixelWritesOneField := by
  refine ⟨fun w => decode_setPixel, fun x y index s hph hl hx hy => ?_,
    fun x y index s h => setPixel_next.2 (.inr ⟨not_phase_and_inScreen h, rfl⟩)⟩
  have hs : s.phase ≠ .unconfigured := by simp [hph]
  refine ⟨_, setPixel_next.2 (.inl ⟨hph, inScreen_natCast hx hy, hl, rfl⟩), ?_, fun x' y' hx' _ hne => ?_,
    fun a ha => (pixByteIn_pixPutIn ..).trans (if_neg ha), rfl⟩
  · refine (pixGetIn_pixPutIn (by decide) hs hl hx hx).trans ?_
    rw [if_pos ⟨rfl, rfl⟩, maskColour_eq hs, Nat.mod_mod]
  · exact (pixGetIn_pixPutIn (by decide) hs hl hx hx').trans (if_neg (not_and_or.2 hne))

/-- Settles O46: the two phase commands between SET_PIXEL and GET_PIXEL move no pixel. -/
theorem setThenGetPixel : Obligations.SetThenGetPixel := by
  intro x y c s hph hl hx hy
  obtain ⟨t, hset, hpixel, -, -, ht⟩ := setPixelWritesOneField.2.1 x y c s hph hl hx hy
  have htph : t.phase = .modifying := by rw [ht]; exact hph
  have hts : t.phase ≠ .unconfigured := by simp [htph]
  have htl : t.configLegal Config.rgx = true := by rw [ht]; exact hl
  have htw : t.screenW = s.screenW := by rw [ht]; rfl
  have hth : t.screenH = s.screenH := by rw [ht]; rfl
  have hready : ((t.withPhase .ready).withResult 0).phase = .ready := rfl
  have hvl : ((t.withPhase .rendering).withResult 0).configLegal Config.rgx = true := by
    rw [State.withResult_configLegal, configLegal_withPhase hts (by decide), htl]
  have hvpixel : pixGet Config.rgx ((t.withPhase .rendering).withResult 0) x y = c.toNat % 2 ^ s.depth.toNat :=
    (pixGet_withPhase (b := .rendering) hts (by decide) x y).trans hpixel
  refine ⟨t, _, (t.withPhase .rendering).withResult 0, hset, getPixelReturnsSample.2.2 x y t (.inl (by simp [htph])),
    movePhase_next.2 (.inl ⟨htph, rfl⟩), movePhase_next.2 (.inl ⟨hready, rfl⟩), ?_⟩
  exact hvpixel ▸ getPixel_of_rendering rfl hvl (htw ▸ hx) (hth ▸ hy)

end Sys2Proof.Machine
end

section
/-!
SUPPORT. Proofs of the statements on DRAW_SPRITE beside its pixels (spec 42_draw_sprite.md R160 to R170) and on the guards of both
blitters (R166, 43_draw_tiles.md R186): the origin and the edges of an axis, the loop-free form, transparency, flips.
-/

namespace Sys2Proof.Machine

open Config (Params)

variable {p : Params} {s : State}

/-! ### The origin of a wrapping axis (R161) -/

theorem normalize_of_nonneg {coord : Int} (h : 0 ≤ coord) (dim : Nat) : normalize coord dim = coord % dim := by
  rw [normalize, if_pos h, Int.tmod_eq_emod_of_nonneg h]

/-- A negative coordinate off the multiples of the canvas is normalised to its residue. -/
theorem normalize_of_neg {coord : Int} {dim : Nat} (h : coord < 0) (hres : coord % dim ≠ 0) :
    normalize coord dim = coord % dim := by
  have hdvd : ¬ (0 ≤ coord ∨ (dim : Int) ∣ coord) :=
    not_or.2 ⟨not_le.2 h, fun hd => hres (Int.emod_eq_zero_of_dvd hd)⟩
  rw [normalize, if_neg (not_le.2 h), Int.tmod_eq_emod, if_neg hdvd, Int.natAbs_natCast]
  omega

/-- A negative multiple of the canvas is normalised to the canvas itself, not to 0. -/
theorem normalize_of_neg_multiple {coord : Int} {dim : Nat} (h : coord < 0) (hres : coord % dim = 0) :
    normalize coord dim = dim := by
  rw [normalize, if_neg (not_le.2 h), Int.tmod_eq_zero_of_dvd (Int.dvd_of_emod_eq_zero hres), Int.add_zero]

/-- Settles O48. -/
theorem normalizeKeepsResidue : Obligations.NormalizeKeepsResidue := fun coord dim _ =>
  ⟨fun h => normalize_of_nonneg h dim, normalize_of_neg, normalize_of_neg_multiple,
    fun k => Int.add_emod_eq_add_emod_right k (normalize_emod coord dim)⟩

/-! ### The edges of an axis (R162, R169) -/

/-- A wrapping axis draws where the index lands on the screen (R162). -/
theorem dest_wrap {o : Int} {k canvas screen d : Nat} (h : (o + k) % canvas = d) :
    dest o k true canvas screen = if d < screen then some d else none := by
  simp only [dest, if_true, h, Int.ofNat_lt, Int.toNat_natCast]

/-- A clipping axis draws at a coordinate of the screen (R162). -/
theorem dest_clip {o : Int} {k canvas screen d : Nat} (h : o + k = d) :
    dest o k false canvas screen = if d < screen then some d else none := by
  simp only [dest, Bool.false_eq_true, if_false, h, Int.natCast_nonneg, true_and, Int.ofNat_lt, Int.toNat_natCast]

/-- Settles O56: index 0 stands at −1 modulo the canvas, and index k of the clipped sprite at `screen_w` − 1 + k. -/
theorem wrapAndClipAtTheEdge : Obligations.WrapAndClipAtTheEdge := by
  intro s _ hl
  obtain ⟨⟨-, hcw, -⟩, -, ⟨-, hsw, -⟩, -, hle, -⟩ := configLegal_iff.1 hl
  refine ⟨dest_wrap ?_, fun k hk hk7 => ?_, ?_, fun k hk => ?_⟩
  · rw [← Int.add_emod_right, Int.emod_eq_of_lt (by omega) (by omega)]
    omega
  · rw [dest_wrap (d := k - 1), if_pos (by omega)]
    rw [Int.emod_eq_of_lt (by omega) (by omega)]
    omega
  · rw [dest_clip (d := s.screenW.toNat - 1) (by omega), if_pos (by omega)]
  · rw [dest_clip (d := s.screenW.toNat - 1 + k) (by omega), if_neg (by omega)]

/-! ### Blits that agree -/

namespace Blit

variable {b : Blit}

/-- Only the values at the blit's own indices matter. -/
theorem loops_congr {value : Nat → Nat → Option Nat} (h : ∀ k < b.cols, ∀ j < b.rows, b.value k j = value k j) :
    b.loops p s = { b with value := value }.loops p s := by
  have hwrites : b.writes s = { b with value := value }.writes s := by
    refine List.flatMap_congr fun j hj => List.filterMap_congr fun k hk => ?_
    rw [write, h k (List.mem_range.1 hk) j (List.mem_range.1 hj)]
    rfl
  rw [loops_eq_putAll, loops_eq_putAll, hwrites]

/-- A blit without a value leaves pixel RAM as it was. -/
theorem loops_of_value_none (h : ∀ k < b.cols, ∀ j < b.rows, b.value k j = none) : b.loops p s = s.pix := by
  have hwrites : b.writes s = [] := by
    refine List.eq_nil_iff_forall_not_mem.2 fun w hw => ?_
    obtain ⟨k, hk, j, hj, -, -, hv⟩ := mem_writes.1 hw
    exact nomatch (h k hk j hj).symm.trans hv
  rw [loops_eq_putAll, hwrites]
  rfl

/-- Pattern RAM enters a blit through its values only. -/
theorem loops_withPat (m : Memory 8) : b.loops p (s.withPat m) = b.loops p s := rfl

end Blit

/-! ### The loop-free form of DRAW_SPRITE (R167, R168) -/

theorem spriteWrite_eq (p : Params) (s : State) (a : SpriteArgs) : spriteWrite p s a = (spriteBlit p s a).write s := by
  funext sx sy
  simp only [spriteWrite, Blit.write, Blit.destX, Blit.destY, spriteBlit]
  cases dest a.x sx a.hwrap s.canvasW.toNat s.screenW.toNat with
  | none => rfl
  | some dx =>
    cases dest a.y sy a.vwrap s.canvasH.toNat s.screenH.toNat with
    | none => rfl
    | some dy => by_cases hzero : spriteSample s a sx sy = 0 <;> simp [hzero]

/-- Settles O49: DRAW_SPRITE is a blit, and the loops of a blit write what its loop-free form writes. -/
theorem spriteLoopsEqualLoopFree : Obligations.SpriteLoopsEqualLoopFree := by
  intro p s a
  rw [spriteLoops_eq, Blit.loops_eq_putAll, spriteWrites, spriteWrite_eq]
  rfl

/-! ### Guards (R166, R186) -/

/-- Settles O54. -/
theorem blitGuards : Obligations.BlitGuards := by
  refine fun x y s => ⟨fun pattern palette hflip vflip hwrap vwrap hph => drawSprite_next.2 (.inr ⟨hph, rfl⟩),
    fun tiles palettes hwrap vwrap transparent h => drawTiles_next.2 (.inl ⟨?_, rfl⟩)⟩
  rcases h with hph | rfl | rfl
  · exact .inl hph
  · exact .inr (.inl rfl)
  · exact .inr (.inr rfl)

/-! ### Transparency and flips (R163, R164) -/

/-- A flip keeps an index inside its pattern (R163). -/
theorem flipped_lt {k : Nat} (hk : k < 8) (flip : Bool) : flipped flip k < 8 := by
  cases flip
  · exact hk
  · exact Nat.lt_succ_of_le (Nat.sub_le 7 k)

/-- Settles O53: the pixels of O51 say that a sample of 0, alone at its destination, leaves its pixel. -/
theorem zeroSamplesAreTransparent : Obligations.ZeroSamplesAreTransparent := by
  intro x y pattern palette hflip vflip hwrap vwrap s hph hl
  constructor
  · obtain ⟨t, ht, -, hinjX, hinjY, hkeep, -, -⟩ :=
      drawSpritePixels.2 x y pattern palette hflip vflip hwrap vwrap s hph hl
    refine ⟨t, ht, fun sx sy a b hsx hsy hx hy hzero => ?_⟩
    obtain ⟨⟨-, hcw, -⟩, ⟨-, hch, -⟩, -⟩ := configLegal_iff.1 hl
    refine hkeep a b (dest_lt_screen (by omega) hx) (dest_lt_screen (by omega) hy) fun sx' sy' hsx' hsy' hx' hy' => ?_
    obtain rfl := hinjX sx sx' a hsx hsx' hx hx'
    obtain rfl := hinjY sy sy' b hsy hsy' hy hy'
    exact hzero
  · intro hzero
    refine drawSprite_next.2 (.inl ⟨hph, hl, ?_⟩)
    rw [spriteLoops_eq, Blit.loops_of_value_none]
    · rfl
    · exact fun sx hsx sy hsy => if_pos (hzero _ _ (flipped_lt hsx hflip) (flipped_lt hsy vflip))

/-- Settles O55: the two sprites are blits with the same axes and, sample by sample, the same values. -/
theorem doubleFlipMirrorsPattern : Obligations.DoubleFlipMirrorsPattern := by
  intro x y pattern palette hwrap vwrap s t m hph hl hmirror hdraw
  have hsample : ∀ sx < 8, ∀ sy < 8,
      spriteSample (s.withPat m) ⟨x, y, pattern.toNat, palette.toNat, false, false, hwrap, vwrap⟩ sx sy =
        spriteSample s ⟨x, y, pattern.toNat, palette.toNat, true, true, hwrap, vwrap⟩ sx sy :=
    fun sx hsx sy hsy => hmirror sx sy hsx hsy
  have hloops : spriteLoops Config.rgx (s.withPat m)
        ⟨x, y, pattern.toNat, palette.toNat, false, false, hwrap, vwrap⟩ =
      spriteLoops Config.rgx s ⟨x, y, pattern.toNat, palette.toNat, true, true, hwrap, vwrap⟩ := by
    rw [spriteLoops_eq, spriteLoops_eq, Blit.loops_withPat]
    refine Blit.loops_congr fun sx hsx sy hsy => ?_
    simp only [spriteBlit, hsample sx hsx sy hsy]
    rfl
  rcases drawSprite_next.1 hdraw with ⟨-, -, rfl⟩ | ⟨hnot, -⟩
  · refine drawSprite_next.2 (.inl ⟨hph, hl, ?_⟩)
    rw [hloops]
    rfl
  · exact absurd hph hnot

end Sys2Proof.Machine
end

section
/-!
SUPPORT. Proofs of the statements on DRAW_TILES beside its pixels (spec 43_draw_tiles.md R187, R188): the loop-free form, and the
grid that wraps on both axes.
-/

namespace Sys2Proof.Machine

open Config (Params)

/-! ### The loop-free form of DRAW_TILES (R187) -/

theorem gridWrite_eq (p : Params) (s : State) (a : TileArgs) : gridWrite p s a = (gridBlit p s a).write s := by
  funext col row
  simp only [gridWrite, Blit.write, Blit.destX, Blit.destY, gridBlit, apply_ite (Option.map _), Option.map_none,
    Option.map_some]
  cases dest a.x col a.hwrap s.canvasW.toNat s.screenW.toNat with
  | none => rfl
  | some dx => cases dest a.y row a.vwrap s.canvasH.toNat s.screenH.toNat <;> rfl

/-- Settles O50: DRAW_TILES is a blit, and the loops of a blit write what its loop-free form writes. -/
theorem tileLoopsEqualLoopFree : Obligations.TileLoopsEqualLoopFree := by
  intro p s a
  rw [gridLoops_eq, Blit.loops_eq_putAll, gridWrites, gridWrite_eq]
  rfl

/-! ### The grid that wraps on both axes (R188) -/

/-- The index that R188 names for a coordinate of a wrapping axis lies on the canvas. -/
theorem wrapIndex_lt (o d : Int) {canvas : Nat} (hc : 0 < canvas) : ((d - o) % canvas).toNat < canvas := by
  have hlt := Int.emod_lt_of_pos (d - o) (b := canvas) (by omega)
  omega

/-- A wrapping axis draws at a coordinate of the screen from one index of the canvas, the one that R188 names. -/
theorem dest_wrap_eq_some_iff {o : Int} {canvas screen d k : Nat} (hle : screen ≤ canvas) (hd : d < screen) (hk : k < canvas) :
    dest o k true canvas screen = some d ↔ k = ((d - o) % canvas).toNat := by
  have hc : 0 < canvas := by omega
  have hindex : dest o ((d - o) % canvas).toNat true canvas screen = some d := by
    refine (dest_wrap ?_).trans (if_pos hd)
    calc (o + ((d - o) % canvas).toNat) % canvas
        = (o + (d - o) % canvas) % canvas := by rw [Int.toNat_of_nonneg (Int.emod_nonneg _ (by omega))]
      _ = d % canvas := by rw [Int.add_emod_emod, add_sub_cancel]
      _ = d := Int.emod_eq_of_lt (by omega) (by omega)
  constructor
  · exact fun h => dest_injective hk (wrapIndex_lt o d hc) h hindex
  · rintro rfl
    exact hindex

/-- Settles O57: each axis has one index for the pixel, and O52 gives the value drawn there. -/
theorem wrappedTilesCoverTheScreen : Obligations.WrappedTilesCoverTheScreen := by
  intro x y tiles palettes s t hph hl htiles hpalettes hdraw a b ha hb
  obtain ⟨⟨-, hcw, -⟩, ⟨-, hch, -⟩, -, -, hwle, hhle, -⟩ := configLegal_iff.1 hl
  have hcol := wrapIndex_lt x a (canvas := s.canvasW.toNat) (by omega)
  have hrow := wrapIndex_lt y b (canvas := s.canvasH.toNat) (by omega)
  refine ⟨_, _, rfl, rfl, fun col' row' hcol' hrow' =>
    and_congr (dest_wrap_eq_some_iff hwle ha hcol') (dest_wrap_eq_some_iff hhle hb hrow'), _, _, rfl, rfl, ?_⟩
  obtain ⟨t', hdraw', hpixel, -⟩ := drawTilesPixels.2 x y tiles palettes true true false s hph hl htiles hpalettes
  obtain rfl : t = t' := Host.Outcome.next.inj (hdraw.symm.trans hdraw')
  exact hpixel _ _ a b _ _ hcol hrow ((dest_wrap_eq_some_iff hwle ha hcol).2 rfl) ((dest_wrap_eq_some_iff hhle hb hrow).2 rfl)
    rfl rfl (by simp)

end Sys2Proof.Machine
end

section
/-!
SUPPORT. Proofs of the statements on the phase table (spec 60_exceptions.md R246, R250) and on context control beside CONFIGURE
(44_context_control.md R206 to R214): TEARDOWN, the four phase commands, CLEAR, PRESENT, GET_INFO.
-/

namespace Sys2Proof.Machine

open Config (Params)

variable {p : Params} {s : State}

/-! ### Commands outside their phases (R212, R246, R250) -/

/-- Settles O15: each command's guard reads the phase as its row of the table does. -/
theorem outOfPhaseCommandIsNoop : Obligations.OutOfPhaseCommandIsNoop := by
  intro i s h
  cases i with
  | configure => exact configure_next.2 (.inl ⟨beq_eq_false_iff_ne.1 h, rfl⟩)
  | teardown => exact execTeardown_next.2 (.inr ⟨beq_eq_false_iff_ne.1 h, rfl⟩)
  | modifyEnter | modifyExit | renderEnter | renderExit => exact movePhase_next.2 (.inr ⟨beq_eq_false_iff_ne.1 h, rfl⟩)
  | clear => exact clear_next.2 (.inr ⟨beq_eq_false_iff_ne.1 h, rfl⟩)
  | present => exact present_next.2 (.inr ⟨beq_eq_false_iff_ne.1 h, rfl⟩)
  | getInfo => exact nomatch h
  | getColour => exact getColour_next.2 (.inl ⟨bne_eq_false_iff_eq.1 h, rfl⟩)
  | readPalette => exact readPalette_next.2 (.inl ⟨.inl (bne_eq_false_iff_eq.1 h), rfl⟩)
  | readPattern => exact readPattern_next.2 (.inl ⟨.inl (bne_eq_false_iff_eq.1 h), rfl⟩)
  | setColour => exact setColour_next.2 (.inr ⟨beq_eq_false_iff_ne.1 h, rfl⟩)
  | writePalette => exact writePalette_next.2 (.inl ⟨.inl (beq_eq_false_iff_ne.1 h), rfl⟩)
  | writePattern => exact writePattern_next.2 (.inl ⟨.inl (beq_eq_false_iff_ne.1 h), rfl⟩)
  | setPixel => exact setPixel_next.2 (.inr ⟨not_phase_and_inScreen (.inl (beq_eq_false_iff_ne.1 h)), rfl⟩)
  | getPixel => exact getPixel_next.2 (.inr ⟨not_phase_and_inScreen (.inl (beq_eq_false_iff_ne.1 h)), rfl⟩)
  | drawSprite => exact drawSprite_next.2 (.inr ⟨beq_eq_false_iff_ne.1 h, rfl⟩)
  | drawTiles => exact drawTiles_next.2 (.inl ⟨.inl (beq_eq_false_iff_ne.1 h), rfl⟩)

/-! ### TEARDOWN and the phase commands (R206 to R211) -/

/-- A state chosen by a guard, with a result of 0, in the two cases of the commands that move the phase. -/
theorem withResult_ite_cases (c : Prop) [Decidable c] (u s : State) :
    (c ∧ (if c then u else s).withResult 0 = u.withResult 0) ∨
      (¬ c ∧ (if c then u else s).withResult 0 = s.withResult 0) := by
  by_cases h : c
  · exact .inl ⟨h, by rw [if_pos h]⟩
  · exact .inr ⟨h, by rw [if_neg h]⟩

/-- Settles O27. -/
theorem teardownReleases : Obligations.TeardownReleases :=
  ⟨fun _ => decode_teardown, fun _ => execTeardown_next.2 (withResult_ite_cases ..)⟩

/-- A phase command completes in every phase with result 0, and moves the phase from its source alone (R212). -/
theorem movePhase_eq (a b : Phase) (s : State) :
    movePhase a b s = .next ((if s.phase = a then s.withPhase b else s).withResult 0) :=
  movePhase_next.2 (withResult_ite_cases ..)

/-- Settles O28. -/
theorem phaseCommandsMove : Obligations.PhaseCommandsMove :=
  ⟨fun _ => ⟨decode_modifyEnter, decode_modifyExit, decode_renderEnter, decode_renderExit⟩,
    fun s => ⟨movePhase_eq .ready .modifying s, movePhase_eq .modifying .ready s, movePhase_eq .ready .rendering s,
      movePhase_eq .rendering .ready s⟩⟩

/-! ### CLEAR and PRESENT (R209, R213) -/

/-- Settles O29: CLEAR fills the bytes in use, and every pixel of the screen lies in one of them. -/
theorem clearZeroesPixels : Obligations.ClearZeroesPixels := by
  refine ⟨fun _ => decode_clear, fun s hph hl => ?_, fun s hph => clear_next.2 (.inr ⟨hph, rfl⟩)⟩
  have hzero : ∀ a < s.pixelBytes Config.rgx,
      pixByte (s.withPix (Memory.fill s.pix (s.pixelBytes Config.rgx) 0)) a = 0 :=
    fun a ha => (pixByte_withPix_fill ..).trans (if_pos ha)
  exact ⟨_, clear_next.2 (.inl ⟨hph, hl, rfl⟩), hzero,
    fun a ha => (pixByte_withPix_fill ..).trans (if_neg (Nat.not_lt.2 ha)),
    fun x y hx hy => pixGet_eq_zero (by decide) (by simp [hph]) hl hzero hx hy, rfl⟩

/-- Settles O30: PRESENT appends `snapshot`. -/
theorem presentHandsOverFrame : Obligations.PresentHandsOverFrame := by
  refine ⟨fun _ => decode_present, fun s hph hl => ?_, fun s hph => present_next.2 (.inr ⟨hph, rfl⟩)⟩
  have hcount : s.colourCount = 2 ^ s.depth.toNat := if_neg (by simp [hph])
  refine ⟨snapshot Config.rgx s, present_next.2 (.inl ⟨hph, hl, rfl⟩), rfl, rfl, rfl, rfl, rfl, ?_, fun a ha => ?_, ?_,
    fun i hi => ?_⟩
  · simp [snapshot, State.pixelBytes]
  · simp [snapshot, State.pixelBytes, ha]
  · simp [snapshot, hcount]
  · simp [snapshot, hcount, hi]

/-! ### GET_INFO (R214) -/

/-- Selectors above 15 name nothing. -/
theorem info_of_le {n : Nat} (h : 16 ≤ n) : info p s n = 0 := by
  unfold info
  split <;> omega

/-- In Unconfigured every selector but `PATTERN_COUNT` and `IF_VERSION` names a register or a derived quantity that is 0. -/
theorem info_of_unconfigured (hinv : s.Inv Config.rgx) (hs : s.phase = .unconfigured) {n : Nat} (h11 : n ≠ 11)
    (h15 : n ≠ 15) : info Config.rgx s n = 0 := by
  obtain ⟨hcw, hch, hsw, hsh, hd, hfr⟩ := hinv.unconfigured_zero hs
  obtain ⟨hcolours, hpattern, hrow, hstride⟩ := derivedQuantities.1 s hs
  unfold info
  split
  case h_12 => exact absurd rfl h11
  case h_16 => exact absurd rfl h15
  all_goals simp [Phase.code, State.tilesW, State.tilesH, State.pixelBytes, *]

/-- Settles O31: each listed selector is a case of `info`. -/
theorem getInfoTable : Obligations.GetInfoTable := by
  refine ⟨fun _ => decode_getInfo, fun sel s => ⟨_, execGetInfo_next.2 rfl, ?_⟩, fun sel s hinv hs h11 h15 => ?_⟩
  · refine ⟨?_, ?_, ?_, ?_, ?_, ?_, ?_, ?_, ?_, ?_, ?_, ?_, ?_, ?_, ?_, ?_, info_of_le⟩ <;> (rintro rfl; rfl)
  · refine execGetInfo_next.2 ?_
    rw [info_of_unconfigured hinv hs (fun h => h11 (BitVec.eq_of_toNat_eq h)) (fun h => h15 (BitVec.eq_of_toNat_eq h))]
    rfl

end Sys2Proof.Machine
end

section
/-!
SUPPORT. Proofs of the statements on CONFIGURE (spec 44_context_control.md R200 to R205, R215): the values it takes, its warnings,
and its success with RGX's capacities.
-/

namespace Sys2Proof.Machine

open Config (Params)

variable {s t : State}

/-! ### The values taken, described without their formulas (R201 to R203) -/

/-- `SnapDim` gives the nearest bound outside 8 .. 1024 and the next multiple of 8 inside (R201). -/
theorem snapDim_spec (v : Int) :
    (v < 8 → snapDim v = 8) ∧ (1024 < v → snapDim v = 1024) ∧
      (8 ≤ v → v ≤ 1024 → snapDim v % 8 = 0 ∧ v ≤ (snapDim v : Int) ∧ (snapDim v : Int) < v + 8) := by
  unfold snapDim ceil8 alignUp
  split_ifs <;> omega

theorem snapDim_of_legal {n : Nat} (h : legalDim n) : snapDim n = n := by
  obtain ⟨-, -, hbetween⟩ := snapDim_spec n
  omega

/-- `SnapDepth` reaches the request where a legal depth does, and gives the greatest depth above (R202). -/
theorem snapDepth_spec (b : Int) : (b ≤ 8 → b ≤ snapDepth b) ∧ (8 < b → snapDepth b = 8) := by
  unfold snapDepth
  split_ifs <;> omega

/-- `SnapDepth` takes no depth above another legal one that reaches the request (R202). -/
theorem snapDepth_le {b : Int} {d : Nat} (hd : d ∈ [1, 2, 4, 8]) (h : b ≤ d) : snapDepth b ≤ d := by
  unfold snapDepth
  rcases depth_cases hd with rfl | rfl | rfl | rfl <;> split_ifs <;> omega

theorem snapDepth_le_eight (b : Int) : snapDepth b ≤ 8 := by
  rcases depth_cases (snapDepth_mem b) with h | h | h | h <;> omega

theorem snapDepth_of_mem {d : Nat} (hd : d ∈ [1, 2, 4, 8]) : snapDepth d = d := by
  rcases depth_cases hd with rfl | rfl | rfl | rfl <;> rfl

theorem clampRate_spec (r : Int) :
    (r < 1 → clampRate r = 1) ∧ (60 < r → clampRate r = 60) ∧ (1 ≤ r → r ≤ 60 → (clampRate r : Int) = r) := by
  unfold clampRate
  omega

/-! ### Success with RGX's capacities (R6, R205) -/

/-- The greatest depth needs all of RGX's pattern RAM and no more. -/
theorem patternNeed_le_rgx (cw ch sw sh bpp fr : Int) :
    patternNeed (clampRequests cw ch sw sh bpp fr) ≤ Config.rgx.patternRamBytes :=
  Nat.mul_le_mul_left (256 * 8) (snapDepth_le_eight bpp)

/-- A row of the widest screen at the greatest depth is 1024 bytes, and there are at most 1024 rows. -/
theorem pixelNeed_le_rgx (cw ch sw sh bpp fr : Int) :
    pixelNeed Config.rgx (clampRequests cw ch sw sh bpp fr) ≤ Config.rgx.pixelRamBytes := by
  have hw : min (snapDim sw) (snapDim cw) ≤ 1024 := (min_le_left ..).trans (snapDim_legal sw).2.2
  have hh : min (snapDim sh) (snapDim ch) ≤ 1024 := (min_le_left ..).trans (snapDim_legal sh).2.2
  have hbits : min (snapDim sw) (snapDim cw) * snapDepth bpp ≤ 1024 * 8 := Nat.mul_le_mul hw (snapDepth_le_eight bpp)
  have hstride : alignUp (min (snapDim sw) (snapDim cw) * snapDepth bpp / 8) 4 ≤ 1024 := by
    unfold alignUp
    omega
  exact Nat.mul_le_mul hstride hh

/-- Settles O22: neither storage check can fail. -/
theorem configureSucceeds : Obligations.ConfigureSucceeds :=
  ⟨fun _ => decode_configure, fun cw ch sw sh bpp fr _ hs =>
    configure_next.2 (.inr ⟨hs, takeConfig_next.2 (.inr (.inr
      ⟨patternNeed_le_rgx cw ch sw sh bpp fr, pixelNeed_le_rgx cw ch sw sh bpp fr, rfl⟩))⟩)⟩

/-- The registers hold the values taken, none of them cut to its register's width (R14 to R17). -/
theorem registers_of_configure {cw ch sw sh bpp fr : Int} (hs : s.phase = .unconfigured)
    (h : exec (.configure cw ch sw sh bpp fr) s = .next t) :
    t.canvasW.toNat = snapDim cw ∧ t.canvasH.toNat = snapDim ch ∧
      t.screenW.toNat = min (snapDim sw) (snapDim cw) ∧ t.screenH.toNat = min (snapDim sh) (snapDim ch) ∧
      t.depth.toNat = snapDepth bpp ∧ t.frameRate.toNat = clampRate fr := by
  obtain rfl := Host.Outcome.next.inj ((configureSucceeds.2 cw ch sw sh bpp fr s hs).symm.trans h)
  exact ⟨toNat_ofNat_of_legalDim (snapDim_legal cw), toNat_ofNat_of_legalDim (snapDim_legal ch),
    toNat_ofNat_of_legalDim (legalDim_min (snapDim_legal sw) (snapDim_legal cw)),
    toNat_ofNat_of_legalDim (legalDim_min (snapDim_legal sh) (snapDim_legal ch)),
    toNat_ofNat_snapDepth bpp, toNat_ofNat_clampRate fr⟩

/-- Settles O23. -/
theorem configuredValues : Obligations.ConfiguredValues := by
  intro cw ch sw sh bpp fr s hs
  have hexec := configureSucceeds.2 cw ch sw sh bpp fr s hs
  obtain ⟨hcw, hch, hsw, hsh, hd, hfr⟩ := registers_of_configure hs hexec
  refine ⟨_, snapDim sw, snapDim sh, hexec, fun v n hmem => ?_, ?_⟩
  · have hn : n = snapDim v := by
      simp only [List.mem_cons, List.not_mem_nil, or_false, Prod.mk.injEq] at hmem
      rcases hmem with ⟨rfl, rfl⟩ | ⟨rfl, rfl⟩ | ⟨rfl, rfl⟩ | ⟨rfl, rfl⟩
      · exact hcw
      · exact hch
      · rfl
      · rfl
    exact hn ▸ snapDim_spec v
  · rw [hcw, hch, hsw, hsh, hd, hfr]
    obtain ⟨hreach, hgreatest⟩ := snapDepth_spec bpp
    exact ⟨rfl, rfl, snapDepth_mem bpp, hreach, hgreatest, fun d => snapDepth_le, clampRate_spec fr⟩

/-! ### Warnings (R204) -/

/-- The warnings for the fields, each with its code, the value taken and the value requested, that moved. -/
def movedWarnings (fields : List (WarnCode × Nat × Int)) : List OutputEvent :=
  (fields.filter fun f => decide ((f.2.1 : Int) ≠ f.2.2)).map fun f => .warn f.1

theorem movedWarnings_cons (code : WarnCode) (taken : Nat) (requested : Int) (fields : List (WarnCode × Nat × Int)) :
    movedWarnings ((code, taken, requested) :: fields) = warnIf code taken requested ++ movedWarnings fields := by
  by_cases h : (taken : Int) = requested <;> simp [movedWarnings, warnIf, h]

/-- CONFIGURE warns of the fields that moved, in field order. -/
theorem configWarnings_eq_movedWarnings (c : Clamped) (cw ch sw sh bpp fr : Int) :
    configWarnings c cw ch sw sh bpp fr =
      movedWarnings [(.canvasW, c.cw, cw), (.canvasH, c.ch, ch), (.screenW, c.sw, sw), (.screenH, c.sh, sh),
        (.depth, c.d, bpp), (.frameRate, c.fr, fr)] := by
  simp only [movedWarnings_cons, configWarnings, List.append_assoc]
  simp [movedWarnings]

/-- After the warnings CONFIGURE emits nothing if it succeeds and one fatal error if it does not (R204, R244). -/
theorem takeConfig_events (p : Params) (c : Clamped) (s : State) :
    ∃ (t : State) (errors : List OutputEvent), takeConfig p c s = .next t ∧ t.output = s.output ++ errors ∧
      (t.result = some 1 → errors = []) ∧ (t.result ≠ some 1 → ∃ code, errors = [.error code true]) := by
  by_cases hpat : patternNeed c ≤ p.patternRamBytes
  · by_cases hpix : pixelNeed p c ≤ p.pixelRamBytes
    · exact ⟨_, [], takeConfig_next.2 (.inr (.inr ⟨hpat, hpix, rfl⟩)), (List.append_nil _).symm, fun _ => rfl,
        fun hne => absurd rfl hne⟩
    · exact ⟨_, _, takeConfig_next.2 (.inr (.inl ⟨hpat, Nat.not_le.1 hpix, rfl⟩)), rfl,
        fun h => absurd (Option.some.inj h) (by decide), fun _ => ⟨.pixelStorage, rfl⟩⟩
  · exact ⟨_, _, takeConfig_next.2 (.inl ⟨Nat.not_le.1 hpat, rfl⟩), rfl,
      fun h => absurd (Option.some.inj h) (by decide), fun _ => ⟨.patternStorage, rfl⟩⟩

/-- Settles O25. -/
theorem oneWarningPerChangedField : Obligations.OneWarningPerChangedField := by
  refine ⟨rfl, fun p cw ch sw sh bpp fr s hs => ?_⟩
  obtain ⟨t, errors, hnext, hout, hresult⟩ := takeConfig_events p (clampRequests cw ch sw sh bpp fr)
    (s.emit (configWarnings (clampRequests cw ch sw sh bpp fr) cw ch sw sh bpp fr))
  rw [State.emit_output, configWarnings_eq_movedWarnings] at hout
  exact ⟨t, errors, configure_next.2 (.inr ⟨hs, hnext⟩), hout, hresult⟩

/-! ### Legal requests (R215) -/

/-- Legal requests are taken as given. -/
theorem clampRequests_of_legal {cw ch sw sh d fr : Nat} (hcw : legalDim cw) (hch : legalDim ch) (hsw : legalDim sw)
    (hsh : legalDim sh) (hw : sw ≤ cw) (hh : sh ≤ ch) (hd : d ∈ [1, 2, 4, 8]) (hlo : 1 ≤ fr) (hhi : fr ≤ 60) :
    clampRequests cw ch sw sh d fr = ⟨cw, ch, sw, sh, d, fr⟩ := by
  obtain ⟨-, -, hbetween⟩ := clampRate_spec fr
  have hrate : clampRate fr = fr := by omega
  simp only [clampRequests, snapDim_of_legal hcw, snapDim_of_legal hch, snapDim_of_legal hsw, snapDim_of_legal hsh,
    min_eq_left hw, min_eq_left hh, snapDepth_of_mem hd, hrate]

/-- Values taken as requested give no warning (R204). -/
theorem configWarnings_of_taken (cw ch sw sh d fr : Nat) :
    configWarnings ⟨cw, ch, sw, sh, d, fr⟩ cw ch sw sh d fr = [] := by
  simp [configWarnings, warnIf]

/-- Settles O24. -/
theorem legalRequestTakenAsGiven : Obligations.LegalRequestTakenAsGiven := by
  intro cw ch sw sh d fr s hs hcw hch hsw hsh hw hh hd hlo hhi
  have hexec := configureSucceeds.2 cw ch sw sh d fr s hs
  have hclamp := clampRequests_of_legal hcw hch hsw hsh hw hh hd hlo hhi
  refine ⟨_, hexec, rfl, rfl, ?_, ?_⟩
  · simp [hclamp, configWarnings_of_taken]
  · obtain ⟨htcw, htch, htsw, htsh, htd, htfr⟩ := Clamped.mk.inj hclamp
    obtain ⟨hrcw, hrch, hrsw, hrsh, hrd, hrfr⟩ := registers_of_configure hs hexec
    exact ⟨hrcw.trans htcw, hrch.trans htch, hrsw.trans htsw, hrsh.trans htsh, hrd.trans htd, hrfr.trans htfr⟩

end Sys2Proof.Machine
end

section
/-!
SUPPORT. Proofs of the statements on the silent no-ops and on the fatal errors of CONFIGURE (spec 60_exceptions.md R244 to R246;
40_pixel_codec_and_pattern_store.md R102, R104).
-/

namespace Sys2Proof.Machine

variable {s : State}

/-! ### Silent no-ops that do not depend on the phase (R246) -/

/-- A `bits` that is no depth, or one of the three pairs (2,1), (2,4), (2,8), makes a pattern transfer a no-op (R102, R104). -/
theorem xfer_none {bits : Nat} (h : bits ∉ [1, 2, 4, 8] ∨ (s.depth.toNat = 2 ∧ bits ∈ [1, 4, 8])) :
    xfer Config.rgx s.depth.toNat bits = .none := by
  refine (xfer_rgx ..).trans (if_neg ?_)
  rintro ⟨hcopy, hdepth⟩
  rcases h with hno | ⟨htwo, hpair⟩
  · exact hno hdepth
  · rw [hcopy, htwo] at hpair
    exact absurd hpair (by decide)

/-- Settles O16: in each case the command's guard fails, or its transfer is none. -/
theorem silentNoops : Obligations.SilentNoops :=
  ⟨fun _ => ⟨readPalette_next.2 (.inl ⟨.inr rfl, rfl⟩), writePalette_next.2 (.inl ⟨.inr rfl, rfl⟩)⟩,
    fun _ _ _ => ⟨readPattern_next.2 (.inl ⟨.inr (.inl rfl), rfl⟩), writePattern_next.2 (.inl ⟨.inr (.inl rfl), rfl⟩)⟩,
    fun s x y tiles palettes hw vw tr h => (blitGuards x y s).2 tiles palettes hw vw tr (.inr h),
    fun _ _ _ _ h => ⟨readPattern_next.2 (.inl ⟨.inr (.inr (xfer_none h)), rfl⟩),
      writePattern_next.2 (.inl ⟨.inr (.inr (xfer_none h)), rfl⟩)⟩,
    fun _ _ _ _ h => ⟨getPixel_next.2 (.inr ⟨not_phase_and_inScreen (.inr h), rfl⟩),
      setPixel_next.2 (.inr ⟨not_phase_and_inScreen (.inr h), rfl⟩)⟩⟩

/-! ### Fatal errors of CONFIGURE (R244, R245) -/

/-- `raise Fatal` in Unconfigured, after the events `es`: the phase is already the one it sets (R245). -/
theorem raiseFatal_emit_of_unconfigured (hs : s.phase = .unconfigured) (code : ErrorCode) (es : List OutputEvent) :
    raiseFatal code (s.emit es) =
      .next (((s.emit (es ++ [.error code true])).withConfig 0 0 0 0 0 0).withResult 0) := by
  rw [raiseFatal_next, State.emit_emit, State.withPhase, ← hs]
  rfl

/-- Settles O26: CONFIGURE reaches the fatal error of the first storage check that fails, with its warnings emitted. -/
theorem fatalConfigure : Obligations.FatalConfigure := by
  rintro p cw ch sw sh bpp fr s c warnings hs rfl rfl
  have houtput (es es' : List OutputEvent) : s.output ++ (es ++ es') = s.output ++ es ++ es' := (List.append_assoc ..).symm
  refine ⟨fun hpat => ⟨_, configure_next.2 (.inr ⟨hs, takeConfig_next.2 (.inl ⟨hpat, ?pattern⟩)⟩), houtput .., rfl⟩,
    fun hpat hpix =>
      ⟨_, configure_next.2 (.inr ⟨hs, takeConfig_next.2 (.inr (.inl ⟨hpat, hpix, ?pixel⟩))⟩), houtput .., rfl⟩⟩
  case pattern | pixel => exact raiseFatal_emit_of_unconfigured hs ..

end Sys2Proof.Machine
end

section
/-!
SUPPORT. Proof of the statement on the host's events: idle step, host write and reset input (spec 70_reset_and_hazards.md R260;
20_memory.md R58, R59).
-/

namespace Sys2Proof.Machine

/-! ### A write of one byte by the host (R59) -/

/-- A host address fits RGX's address space, so the wrap of R52 leaves it as it is. -/
@[simp] theorem hostAddr_toNat (a : Word) : hostAddr Config.rgx a.toNat = a.toNat :=
  Nat.mod_eq_of_lt a.isLt

theorem hostByteAt_hostStore (a : Word) (v : Byte) (s : State) : hostByteAt Config.rgx (hostStore a v s) a.toNat = v := by
  simp [hostByteAt, hostStore]

theorem hostByteAt_hostStore_other (a : Word) (v : Byte) (s : State) {b : Nat} (hb : hostAddr Config.rgx b ≠ a.toNat) :
    hostByteAt Config.rgx (hostStore a v s) b = hostByteAt Config.rgx s b := by
  rw [hostByteAt, hostStore, State.withHostMem_hostMem, Memory.read?_write_other _ v hb, hostByteAt]

/-! ### The host's events -/

/-- Settles O8, one clause for each host event: none pending, a host write (its byte and its frame), the reset input. -/
theorem hostEventsStep : Obligations.HostEventsStep := by
  refine ⟨fun _ => step_idle, fun s a v rest hwrite => ?write, fun s rest hreset => ?reset⟩
  case write =>
    exact ⟨hostStore a v (s.withInputs rest), step_hostWrite hwrite, hostByteAt_hostStore ..,
      fun b hb => hostByteAt_hostStore_other a v _ hb, rfl⟩
  case reset =>
    refine ⟨resetBlock (s.withInputs rest), step_reset hreset, ?_⟩
    simp [resetBlock, State.reset]

end Sys2Proof.Machine
end

section
/-!
SUPPORT. Proof of the statement on the packets of 95_test_vectors.md section 2.8 (spec 30_encoding.md R70 to R78).
-/

namespace Sys2Proof.Machine

/-- A packet is a command's when the bits listed for its opcode are those the encoder gives the command: the other bits are
reserved (R78). -/
theorem decode_of_listedBits_eq_encode {w : Packet} {i : Instr} (hi : i.wellFormed = true)
    (h : w &&& listedBits w.opcode = encode i &&& listedBits w.opcode) : decode w = .ok i :=
  (reservedBitsAreIgnored.1 w (encode i) h).trans (decode_encode hi)

/-- Settles O3: eight packets agree with the encoder on the listed bits, CLEAR and the second DRAW_SPRITE with reserved bits set
beside them (R78); the opcodes of the last two are reserved (R77). -/
theorem knownPacketsDecode : Obligations.KnownPacketsDecode := by
  refine ⟨?configure, ?setColour, ?writePattern, ?getPixel, ?drawSprite, ?drawTiles, ?clearReservedSet,
    ?drawSpriteReservedSet, ?opcode00, ?opcode16⟩
  case opcode00 | opcode16 => exact decode_reserved (by decide)
  all_goals exact decode_of_listedBits_eq_encode (by decide) (by decide)

end Sys2Proof.Machine
end
